-- ==== Sys2Proof/Word.lean ====
section
/-! DEFINITION. The byte of the rig line and the names that the manual fixes: roles, node states, drive
states, results and so on (00_scope.md, 0.4 "Names"). Their codes on the line stand in Machine/Codes.lean. -/

namespace Sys2Proof

/-- One character's data bits (R186). -/
abbrev Byte := BitVec 8

/-- R148: the roles a publication can carry. -/
inductive Role where
  | winch | crowd | rotary | pack | console | other
  deriving DecidableEq, Repr

/-- R203, R200: node states. -/
inductive NodeState where
  | listen | setup | ready | run | stopped | parked | fault
  deriving DecidableEq, Repr

/-- R148: how recently a station was heard. -/
inductive Presence where
  | absent | fresh | aged | lost
  deriving DecidableEq, Repr

/-- R77: drive states. -/
inductive DriveState where
  | held | releasing | active | setting
  deriving DecidableEq, Repr

/-- R134: share classes; `noClass` is the manual's class none. -/
inductive ShareClass where
  | noClass | guard | work | move
  deriving DecidableEq, Repr

/-- R93: tool state. -/
inductive ToolState where
  | held | opened | closed
  deriving DecidableEq, Repr

/-- R209: reset kinds. -/
inductive ResetCause where
  | powerOn | supplyDip | resetLine | requested
  deriving DecidableEq, Repr

/-- R209: prior state of the reset-cause record. -/
inductive PriorState where
  | unknown | parked | stopped | run | other
  deriving DecidableEq, Repr

/-- R189: last error kind. -/
inductive LineError where
  | noError | parity | framing | truncated | length | crc | overrun | txDrop
  deriving DecidableEq, Repr

/-- R197: the fault kinds, in the order of their bits. -/
inductive FaultKind where
  | strapInvalid | duplicateStation | roleConflict | setupError | lineFault
  | lockSlip | overExtension | slackRope | guardStarved
  deriving DecidableEq, Repr

/-- R5: tracking state. -/
inductive Tracking where
  | unknown | tracking | suspended
  deriving DecidableEq, Repr

/-- R104: slack watch. -/
inductive SlackWatch where
  | clear | timing | raised
  deriving DecidableEq, Repr

/-- R121: stall watch. -/
inductive StallWatch where
  | clear | timing
  deriving DecidableEq, Repr

/-- R120: recovery phase. -/
inductive Recovery where
  | boring | reversing | restarting
  deriving DecidableEq, Repr

/-- R18: kinds of tracker event. -/
inductive TrackerEventKind where
  | noEvent | homeCorrection | trackingLost
  deriving DecidableEq, Repr

/-- R29: motion direction. -/
inductive Direction where
  | rest | forward | reverse
  deriving DecidableEq, Repr

/-- R37: kinds of lock event. -/
inductive LockEventKind where
  | noEvent | seated | miss | geometryStale | released
  deriving DecidableEq, Repr

/-- R46: phases of the five kinds of operation. -/
inductive Phase where
  | prepare | paying | hauling | unlocking | tensioning | pulling | locking | correcting
  | boring | spinning
  deriving DecidableEq, Repr

/-- R176: results of a REPLY. -/
inductive Result where
  | done | refusedState | refusedInterlock | badArgs | busy | superseded | aborted | noOwner
  | failed | notParked | parkInterrupted
  deriving DecidableEq, Repr

/-- R176: reasons of a REPLY; `carried n` is a received code outside those of R197, kept as carried. -/
inductive Reason where
  | noReason | lockMiss | partialLock | relockFailed | geometryStale | noClaim | noOwner
  | peerRefused | peerLost | timeout | stalled | extensionEnd | strokeEnd | depthLimit
  | topSeated | toolNotClear | ownerFault | lockSlip | overExtension | home | stoppedByRequest
  | carried (n : Nat)
  deriving DecidableEq, Repr

/-- R207: park state. -/
inductive ParkState where
  | notParked | entering | settled | waking
  deriving DecidableEq, Repr

/-- R190: line state. -/
inductive LineState where
  | normal | listenOnly | lineFault
  deriving DecidableEq, Repr

/-- R187: receiver state. -/
inductive RxState where
  | hunting | inFrame | skipping
  deriving DecidableEq, Repr

/-- R187: the six frame kinds. -/
inductive FrameKind where
  | stop | claim | reply | request | publish | setup
  deriving DecidableEq, Repr

/-- R173: state of a request-table entry. -/
inductive EntryState where
  | claimed | acting | waitingPeers
  deriving DecidableEq, Repr

/-- R180: status of a pending default record. -/
inductive DefaultStatus where
  | watching | claimQueued | replyQueued
  deriving DecidableEq, Repr

/-- R47, R51: claim status of a sub-request. -/
inductive ClaimStatus where
  | unclaimed | positive | default
  deriving DecidableEq, Repr

/-- R47: start-confirm status of a sub-request. -/
inductive StartStatus where
  | notNeeded | waiting | started
  deriving DecidableEq, Repr

/-- R167: qualifier of an aux window. -/
inductive AuxQual where
  | off | set | query | both
  deriving DecidableEq, Repr

/-- R202: causes of a setup failure. -/
inductive SetupCause where
  | badItem | missing | range | cross
  deriving DecidableEq, Repr

/-- R202, pass 4: the cross checks; the joint number where there is one. -/
inductive CrossCheck where
  | pitchSlide (j : Nat) | tolPitch (j : Nat) | stroke | torque
  deriving DecidableEq, Repr

/-- R163: the two broadcasts. -/
inductive Broadcast where
  | start | halt
  deriving DecidableEq, Repr

/-- R200: the straps as sampled or as their pins stand: station code 0..15, role code 0..3, DFLT and
line-speed code 0..3. -/
structure Straps where
  station : Nat
  role : Nat
  dflt : Bool
  baud : Nat
  deriving DecidableEq, Repr

end Sys2Proof
end

