-- ==== Sys2Proof/Config.lean ====
section
/-! DEFINITION. What an implementation fixes and the manual leaves open: free values, with no body, so
that no proof can rest on a number. -/

namespace Sys2Proof

/-- DESIGN CHOICE (safe, log 7). R197 gives each quantity a field width and does not say what is carried
when the quantity does not fit it: the number then carried in a field of `width` bytes for quantity `x`. -/
opaque Config.outOfFormat (width : Nat) (x : Int) : Nat

/-- DESIGN CHOICE (safe, log 8). R156 and R177 carry a presence as an enumerated value; R197 gives no
code for it. -/
opaque Config.presenceCode (p : Presence) : Byte

/-- DESIGN CHOICE (safe, log 9). R202 records "the failing code" of a cross check over two items and does
not say which of the two: the code recorded. -/
opaque Config.crossCode (c : CrossCheck) : Nat

end Sys2Proof
end

