-- ==== Sys2Proof/Syntax.lean ====
section
/-! DEFINITION. The commands of the block: one constructor for each row of spec/opcode_table.json, in the
table's order. A command is an event at a pin, on the rig line or of a timer; the rows of frame handling
act on the oldest frame of the receive holding queue (R191) and so carry no operand (log 1). -/

namespace Sys2Proof

/-- The rows of spec/opcode_table.json. -/
inductive Instr where
  /-- POWER_ON, with the strap pins as they stand at the end of the reset. -/
  | powerOn (pins : Straps)
  | supplyDip (pins : Straps)
  | resetLine (pins : Straps)
  | listenTimerExpiry
  | stopLineAsserted
  | stopLineReleased
  /-- ROPE_EVENT, with the new payout reading P in mm. -/
  | ropeEvent (payout : Int)
  /-- ROPE_TENSION_EVENT, with the new tension reading in kN. -/
  | ropeTensionEvent (tension : Nat)
  | kellyHomeActive
  | kellyHomeInactive
  /-- AXIS_SPEED_EVENT, with the new speed reading of the node's own axis. -/
  | axisSpeedEvent (speed : Int)
  /-- STROKE_EVENT, with the new stroke reading T in mm. -/
  | strokeEvent (stroke : Int)
  /-- CROWD_FORCE_EVENT, with the new force reading in kN. -/
  | crowdForceEvent (force : Nat)
  /-- ANGLE_EVENT, with the change of the reading in tenths of a degree, clockwise positive. -/
  | angleEvent (change : Int)
  /-- TORQUE_EVENT, with the new torque reading in kN·m. -/
  | torqueEvent (torque : Int)
  | brakeReleaseExpiry
  | brakeSetExpiry
  | slackTimerExpiry
  | stallTimerExpiry
  | periodicTimerExpiry
  /-- AGING_STEP, of the entry of a station. -/
  | agingStep (station : Nat)
  /-- SEND_BOUND_EXPIRY, of the sub-request with a tag; so for the three rows that follow. -/
  | sendBoundExpiry (tag : Nat)
  | subRequestSlowWindowEnd (tag : Nat)
  | startDeadlineExpiry (tag : Nat)
  | replyDeadlineExpiry (tag : Nat)
  | publicationWaitExpiry
  /-- FAST_WINDOW_END, of a default record by its number; so for the row that follows. -/
  | fastWindowEnd (record : Nat)
  | defaultSlowWindowEnd (record : Nat)
  | parkEntryTimerExpiry
  | wakeTimerExpiry
  /-- CHARACTER_ERROR: the character's data, parity bit and stop bit as sampled. -/
  | characterError (data : Byte) (parity stop : Bool)
  /-- TRUNCATED, after `bits` more bit times of recessive line; so for SKIP_QUIET_END and TRANSMIT_START. -/
  | truncated (bits : Nat)
  | skipQuietEnd (bits : Nat)
  /-- FRAME_COMPLETE, with the frame's last character. -/
  | frameComplete (data : Byte)
  | transmitStart (bits : Nat)
  | arbitrationLost
  | readBackFailure
  | txComplete
  | publishHandled
  | claimHandled
  | replyHandled
  | stopHandled
  | setupHandled
  | unknownKindDiscard
  | start
  | halt
  | park
  | resetNode
  | clearFault
  | queryPeer
  | queryNode
  | winchMove
  | lower
  | lift
  | extend
  | setDatum
  | assertPicture
  | queryKelly
  | crowdMove
  | queryCrowd
  | rotaryMove
  | lock
  | release
  | bore
  | boreStop
  | spinOff
  | queryLocks
  | toolOpen
  | toolClose
  | toolHold
  | undefinedFunction
  | unownedRequest
  /-- CHARACTER_RECEIVED, with the character's data. -/
  | characterReceived (data : Byte)
  | noisePulse
  deriving DecidableEq, Repr

end Sys2Proof
end

