-- ==== Sys2Proof/Machine/State.lean ====
section
/-! DEFINITION. The state of one VD-440, one record for each block of 00_scope.md 0.3, and its reset
value. Everything is plain data; what other rules compute from it (E, D, the mirrors, the speed cap, the
outputs) is a function of it (log 6). Timers hold microseconds remaining (log 2). -/

namespace Sys2Proof.Machine

/-- A timer: stopped, or running with the microseconds that remain. -/
abbrev Timer := Option Nat

/-- A timer started with a time in ms. -/
def Timer.ms (n : Nat) : Timer := some (n * 1000)

/-- R134: a share claim. -/
structure Claim where
  cls : ShareClass
  kw : Nat
  deriving DecidableEq, Repr

/-- R90: class none, 0 kW. -/
def Claim.none : Claim := { cls := .noClass, kw := 0 }

/-! ### Sensors and inputs -/

/-- The node's sensor readings and the stop line as sensed (00_scope.md 0.6). `speed` is the speed of the
node's own axis: rope, crowd or rotary. -/
structure Sensors where
  payout : Int
  tension : Nat
  home : Bool
  speed : Int
  stroke : Int
  force : Nat
  angle : Int
  torque : Int
  stopLine : Bool
  deriving DecidableEq, Repr

/-! ### Node Control -/

/-- R157, 11.2: the geometry of one joint. -/
structure JointGeom where
  slide : Nat
  pitch : Nat
  tol : Nat
  deriving DecidableEq, Repr

/-- 11.2: the setup items in force, less the aux windows, which the Request Unit holds. -/
structure Setup where
  joints : List JointGeom
  pubPeriod : Nat
  lostMult : Nat
  capFallback : Nat
  maxDepth : Nat
  datumOffset : Int
  ropeOffset : Int
  slipTol : Nat
  brakeSet : Nat
  brakeRelease : Nat
  ropeSpeedMax : Nat
  slackTension : Nat
  slackTime : Nat
  floatTension : Nat
  floatClaim : Nat
  thrustMax : Nat
  feedForce : Nat
  crowdSpeedMax : Nat
  strokeMin : Nat
  strokeMax : Nat
  torqueMax : Nat
  seatTorque : Nat
  lockAngle : Nat
  lockSpeed : Nat
  releaseAngle : Nat
  stallSpeed : Nat
  stallTime : Nat
  stallTries : Nat
  reverseAngle : Nat
  spinSpeed : Nat
  deriving DecidableEq, Repr

/-- 11.2: no geometry and the default of every other item. -/
def Setup.default : Setup :=
  { joints := [], pubPeriod := 50, lostMult := 6, capFallback := 200, maxDepth := 90000, datumOffset := 0,
    ropeOffset := 0, slipTol := 50, brakeSet := 300, brakeRelease := 200, ropeSpeedMax := 600,
    slackTension := 20, slackTime := 500, floatTension := 60, floatClaim := 40, thrustMax := 300,
    feedForce := 20, crowdSpeedMax := 150, strokeMin := 0, strokeMax := 12000, torqueMax := 250,
    seatTorque := 10, lockAngle := 250, lockSpeed := 20, releaseAngle := 200, stallSpeed := 20,
    stallTime := 300, stallTries := 3, reverseAngle := 300, spinSpeed := 300 }

/-- R197: the fault set, one flag for each kind. -/
structure FaultSet where
  strapInvalid : Bool
  duplicateStation : Bool
  roleConflict : Bool
  setupError : Bool
  lineFault : Bool
  lockSlip : Bool
  overExtension : Bool
  slackRope : Bool
  guardStarved : Bool
  deriving DecidableEq, Repr

/-- R206: the empty fault set. -/
def FaultSet.empty : FaultSet :=
  { strapInvalid := false, duplicateStation := false, roleConflict := false, setupError := false,
    lineFault := false, lockSlip := false, overExtension := false, slackRope := false, guardStarved := false }

/-- R205: the node's stop pull. -/
structure StopPull where
  lockSlip : Bool
  overExtension : Bool
  slackRope : Bool
  deriving DecidableEq, Repr

/-- R205: no cause. -/
def StopPull.empty : StopPull := { lockSlip := false, overExtension := false, slackRope := false }

/-- R202: the setup failure record. -/
structure SetupFailure where
  code : Nat
  index : Nat
  cause : SetupCause
  deriving DecidableEq, Repr

/-- R208: a held broadcast, with the number of requests held before it (its place in the order of
arrival). -/
structure HeldBroadcast where
  what : Broadcast
  after : Nat
  deriving DecidableEq, Repr

/-- Node Control. -/
structure NodeCtl where
  pins : Straps
  straps : Straps
  state : NodeState
  listen : Timer
  items : List ((Nat × Nat) × Int)
  badItems : List (Nat × Nat)
  committed : Bool
  setup : Setup
  failure : Option SetupFailure
  faults : FaultSet
  pull : StopPull
  lastStop : Option (Nat × Nat)
  park : ParkState
  parkTimer : Timer
  interrupted : Bool
  returnRun : Bool
  heldBc : List HeldBroadcast
  cause : ResetCause
  prior : PriorState
  deriving DecidableEq, Repr

/-! ### Line Port -/

/-- A good frame in the receive holding queue (R187, R191), with the microseconds since its receipt. -/
structure RxFrame where
  kind : Byte
  src : Byte
  payload : List Byte
  waited : Nat
  deriving DecidableEq, Repr

/-- Who queued a frame, and so who hears of its completion, loss or drop (R191, R195, R196).
`publication n` is the n-th PUBLISH built; `resetClaim e` the CLAIM of the RESET_NODE entry e;
`subRequest t r` the sub-request with tag t to role r; `defaultClaim n` and `defaultReply n` belong to
default record n. -/
inductive Producer where
  | nodeControl
  | requestUnit
  | resetClaim (entry : Nat)
  | publication (number : Nat)
  | subRequest (tag : Nat) (target : Role)
  | windDown
  | defaultClaim (record : Nat)
  | defaultReply (record : Nat)
  deriving DecidableEq, Repr

/-- A frame of the node's own: its kind and payload; its characters, with the node's station as SRC, are
`State.sentChars` (R187). `withdrawn` is read in the shifter only
(R196). -/
structure TxFrame where
  kind : FrameKind
  payload : List Byte
  owner : Producer
  withdrawn : Bool
  deriving DecidableEq, Repr

/-- The Line Port. -/
structure LinePort where
  rx : RxState
  chars : List Byte
  hold : List RxFrame
  queue : List TxFrame
  shifter : Option TxFrame
  state : LineState
  errRun : Nat
  goodRun : Nat
  lastError : LineError
  quiet : Nat
  deriving DecidableEq, Repr

/-! ### Request Unit -/

/-- R170: a request-table entry; `id` tells apart entries that repeat. -/
structure ReqEntry where
  id : Nat
  requester : Nat
  tag : Nat
  fn : Nat
  qual : Nat
  args : List Byte
  state : EntryState
  deriving DecidableEq, Repr

/-- R180: a pending default record. -/
structure DefaultRec where
  id : Nat
  requester : Nat
  tag : Nat
  fn : Nat
  fast : Timer
  slow : Timer
  status : DefaultStatus
  deriving DecidableEq, Repr

/-- R167: an aux window. -/
structure AuxWindow where
  base : Byte
  mask : Byte
  qual : AuxQual
  deriving DecidableEq, Repr

/-- R167: an aux window after every reset kind. -/
def AuxWindow.off : AuxWindow := { base := 0, mask := 0, qual := .off }

/-- The Request Unit. -/
structure RequestUnit where
  table : List ReqEntry
  defaults : List DefaultRec
  tagCtr : Nat
  nextId : Nat
  aux1 : AuxWindow
  aux2 : AuxWindow
  deriving DecidableEq, Repr

/-! ### Peer Table -/

/-- R162, R198: the winch role part as carried. -/
structure WinchPart where
  payout : Int
  depth : Int
  ext : Int
  tracking : Nat
  slack : Nat
  residue : Int
  j : Nat
  exts : List Nat
  stack : List Nat
  tension : Nat
  speed : Int
  evKind : Nat
  evAmount : Int
  evSeq : Nat
  deriving DecidableEq, Repr

/-- R162, R198: the crowd role part as carried. -/
structure CrowdPart where
  stroke : Int
  force : Nat
  speed : Int
  withheld : Nat
  deriving DecidableEq, Repr

/-- R162, R198: the rotary role part as carried; a lock record is 0 for FREE and pocket + 1 for SEATED. -/
structure RotaryPart where
  angle : Nat
  speed : Int
  torque : Int
  validity : Nat
  dir : Nat
  j : Nat
  locks : List Nat
  evKind : Nat
  evTravel : Nat
  evSeq : Nat
  attempts : Nat
  stall : Nat
  opKind : Nat
  opPhase : Nat
  deriving DecidableEq, Repr

/-- R162: the role part of a snapshot. -/
inductive RolePart where
  | winch (p : WinchPart)
  | crowd (p : CrowdPart)
  | rotary (p : RotaryPart)
  | pack (capacity : Nat)
  | empty
  deriving DecidableEq, Repr

/-- R148: the contents of the last accepted publication, enumerated values as carried (R197). -/
structure Snapshot where
  nodeState : Nat
  driveState : Nat
  driveMode : Nat
  faults : Nat
  cls : Nat
  tool : Nat
  kw : Nat
  cause : Nat
  prior : Nat
  errRun : Nat
  lastError : Nat
  part : RolePart
  deriving DecidableEq, Repr

/-- R148: the entry of a station that is not ABSENT. -/
structure Peer where
  station : Nat
  presence : Presence
  role : Role
  period : Nat
  age : Nat
  snap : Snapshot
  deriving DecidableEq, Repr

/-! ### Publication Assembler, Share Arbiter -/

/-- The Publication Assembler (R158); `signal` and `builds` are the model's own (log 23). -/
structure Assembler where
  timer : Timer
  builds : Nat
  signal : Bool
  deriving DecidableEq, Repr

/-- R135: the Share Arbiter; `source` none is FALLBACK, `starved` is the guard watch. -/
structure ShareArbiter where
  capacity : Nat
  source : Option Nat
  ownClaim : Claim
  grant : Nat
  starved : Bool
  deriving DecidableEq, Repr

/-! ### Kelly Tracker -/

/-- R1: a joint record; its stack position is its place in the open stack. -/
structure JointRec where
  opened : Bool
  ext : Nat
  deriving DecidableEq, Repr

/-- R1: a CLOSED joint. -/
def JointRec.closed : JointRec := { opened := false, ext := 0 }

/-- R18: the last tracker event. -/
structure TrackerEvent where
  kind : TrackerEventKind
  amount : Int
  seq : Nat
  deriving DecidableEq, Repr

/-- The Kelly Tracker. `stack` holds joint numbers with the TOP FIRST (R2). `leftBy` is the fault by which
tracking last left TRACKING, none for any other cause: what R99 tells apart (DEDUCED, log 21). -/
structure Tracker where
  joints : List JointRec
  stack : List Nat
  residue : Int
  state : Tracking
  ropeOffset : Int
  datumOffset : Int
  es : Int
  leftBy : Option FaultKind
  event : TrackerEvent
  deriving DecidableEq, Repr

/-! ### Lock Monitor -/

/-- R37: the last lock event. -/
structure LockEvent where
  kind : LockEventKind
  travel : Nat
  seq : Nat
  deriving DecidableEq, Repr

/-- The Lock Monitor. A lock record is `none` for FREE and `some k` for SEATED at pocket k (R26); `known`
is lock validity KNOWN, `watch` an OPEN seat watch. `watchOfTurn` is the model's own (log 16). -/
structure LockMonitor where
  records : List (Option Nat)
  pocketCounts : List Nat
  known : Bool
  dir : Direction
  fwd : Nat
  rev : Nat
  watch : Bool
  watchOfTurn : Bool
  event : LockEvent
  deriving DecidableEq, Repr

/-! ### Axis Drive -/

/-- The drive modes with their setpoints (04, section 4.2). -/
inductive Mode where
  | hold
  | haul (speed : Nat)
  | pay (speed : Nat)
  | float (tension : Nat)
  | feed (speed : Int) (target : Option Int)
  | pull (speed : Nat) (target : Option Int)
  | thrust (force : Nat)
  | turn (speed : Int)
  | lock
  | release
  | bore (speed torque : Nat)
  | spin (cycles : Nat)
  deriving DecidableEq, Repr

/-- R77: the source of the mode. -/
inductive Source where
  | request (id : Nat)
  | operation
  deriving DecidableEq, Repr

/-- R131: the spin record; the cycles requested stand in the mode. -/
structure Spin where
  done : Nat
  reverseHalf : Bool
  count : Nat
  deriving DecidableEq, Repr

/-- R131: the spin record when not in use. -/
def Spin.unused : Spin := { done := 0, reverseHalf := false, count := 0 }

/-- The Axis Drive. -/
structure Drive where
  state : DriveState
  mode : Mode
  pending : Option Mode
  timer : Timer
  claim : Claim
  source : Option Source
  tool : ToolState
  slack : SlackWatch
  slackTimer : Timer
  stall : StallWatch
  stallTimer : Timer
  recovery : Recovery
  attempts : Nat
  spin : Spin
  withheld : Bool
  supply : Bool
  deriving DecidableEq, Repr

/-! ### Operation Controller -/

/-- R50: the forms of sub-request. -/
inductive SubReq where
  | release
  | lock
  | pull (stroke : Int)
  | feed (speed : Int) (stroke : Int)
  | crowdHold
  | thrust (force : Nat)
  | winchFloat (tension : Nat)
  | winchHold
  | rotaryHold
  deriving DecidableEq, Repr

/-- R47: a sub-request entry. `sendExpired` says that the send bound ran out with the REQUEST in the
shifter (R50). -/
structure SubEntry where
  what : SubReq
  tag : Nat
  sent : Bool
  claimant : Option Nat
  claim : ClaimStatus
  reply : Option (Nat × Nat)
  startStatus : StartStatus
  sendBound : Timer
  sendExpired : Bool
  slow : Timer
  deadline : Timer
  deriving DecidableEq, Repr

/-- R46: an operation's kind with its targets. -/
inductive OpSpec where
  | lower (depth : Int)
  | lift (depth : Int)
  | extend (joint pocket extension : Nat)
  | bore (depth : Int) (thrust torque speed : Nat)
  | spinOff (cycles : Nat)
  deriving DecidableEq, Repr

/-- R46: the operation record. `entry` is the request-table entry of the originating request; `pubWait`
and `pubFrom` are R69's publication wait and the number of the first PUBLISH that ends it; `lastMiss`
says that the last LOCK replied LOCK_MISS (R71). -/
structure OpRecord where
  spec : OpSpec
  requester : Nat
  tag : Nat
  entry : Nat
  phase : Phase
  corr : Nat
  subs : List SubEntry
  pubWait : Timer
  pubFrom : Nat
  lastMiss : Bool
  deriving DecidableEq, Repr

end Sys2Proof.Machine

namespace Sys2Proof.Machine

/-- The block: one record for each of its blocks, and the commands that wait (`pending`, first in, first
out). -/
structure State where
  pending : List Instr
  clockUs : Nat
  sens : Sensors
  node : NodeCtl
  line : LinePort
  req : RequestUnit
  peers : List Peer
  pub : Assembler
  share : ShareArbiter
  trk : Tracker
  locks : LockMonitor
  drv : Drive
  op : Option OpRecord
  deriving DecidableEq, Repr

/-- No command of the block stops it: the model has no fault (INVENTORY.md, Faults). -/
inductive Fault where
  deriving DecidableEq, Repr

/-- Reasons for which a command has no meaning. -/
inductive Refusal where
  /-- Raised by a command of the table that has no meaning yet, by its mnemonic; no command raises it.
  Safe. -/
  | notModelled (mnemonic : String)
  deriving DecidableEq, Repr

/-- DESIGN CHOICE (unsafe, log 4): the strap pins of the node that `State.reset` describes: station 2,
role winch, not DFLT, 500 kbit/s. -/
def Straps.reset : Straps := { station := 2, role := 0, dflt := false, baud := 2 }

/-- DESIGN CHOICE (unsafe, log 5): the inputs before any event at a pin. -/
def Sensors.reset : Sensors :=
  { payout := 0, tension := 0, home := false, speed := 0, stroke := 0, force := 0, angle := 0, torque := 0,
    stopLine := false }

/-- R200, R201, R202, R205, R207, R208, R209: Node Control after a reset with the given cause, prior state
and strap pins; LISTEN with its timer of 500 ms. -/
def NodeCtl.afterReset (cause : ResetCause) (prior : PriorState) (pins : Straps) : NodeCtl :=
  { pins := pins, straps := pins, state := .listen, listen := Timer.ms 500, items := [], badItems := [],
    committed := false, setup := Setup.default, failure := none, faults := FaultSet.empty,
    pull := StopPull.empty, lastStop := none, park := .notParked, parkTimer := none, interrupted := false,
    returnRun := false, heldBc := [], cause := cause, prior := prior }

/-- R187, R189, R190, R191, R195, R196: the Line Port after every reset kind. -/
def LinePort.reset : LinePort :=
  { rx := .hunting, chars := [], hold := [], queue := [], shifter := none, state := .normal, errRun := 0,
    goodRun := 0, lastError := .noError, quiet := 0 }

/-- R167, R170, R180, R184: the Request Unit after every reset kind. -/
def RequestUnit.reset : RequestUnit :=
  { table := [], defaults := [], tagCtr := 0, nextId := 0, aux1 := AuxWindow.off, aux2 := AuxWindow.off }

/-- R158: the Publication Assembler after every reset kind. -/
def Assembler.reset : Assembler := { timer := none, builds := 0, signal := false }

/-- R135: the Share Arbiter after every reset kind. -/
def ShareArbiter.reset : ShareArbiter :=
  { capacity := 200, source := none, ownClaim := Claim.none, grant := 0, starved := false }

/-- R1, R2, R3, R5, R12, R18, R22: the Kelly Tracker after every reset kind. -/
def Tracker.reset : Tracker :=
  { joints := [], stack := [], residue := 0, state := .unknown, ropeOffset := 0, datumOffset := 0, es := 0,
    leftBy := none,
    event := { kind := .noEvent, amount := 0, seq := 0 } }

/-- R26, R28 to R31, R37: the Lock Monitor after every reset kind. -/
def LockMonitor.reset : LockMonitor :=
  { records := [], pocketCounts := [], known := false, dir := .rest, fwd := 0, rev := 0, watch := false,
    watchOfTurn := false, event := { kind := .noEvent, travel := 0, seq := 0 } }

/-- R77, R93, R104, R113, R120, R121, R131: the Axis Drive after every reset kind. -/
def Drive.reset : Drive :=
  { state := .held, mode := .hold, pending := none, timer := none, claim := Claim.none, source := none,
    tool := .held, slack := .clear, slackTimer := none, stall := .clear, stallTimer := none,
    recovery := .boring, attempts := 0, spin := Spin.unused, withheld := false, supply := true }

/-- R209: every block at its reset value, in LISTEN, with the given reset-cause record and strap pins;
the inputs and the waiting commands are not the block's to reset. -/
def State.afterReset (cause : ResetCause) (prior : PriorState) (pins : Straps) (sens : Sensors)
    (pending : List Instr) : State :=
  { pending := pending, clockUs := 0, sens := sens, node := NodeCtl.afterReset cause prior pins,
    line := LinePort.reset, req := RequestUnit.reset, peers := [], pub := Assembler.reset,
    share := ShareArbiter.reset, trk := Tracker.reset, locks := LockMonitor.reset, drv := Drive.reset,
    op := none }

/-- The machine right after a POWER_ON reset (R209). -/
def State.reset : State := State.afterReset .powerOn .unknown Straps.reset Sensors.reset []

end Sys2Proof.Machine
end

