-- ==== Sys2Proof/Machine/Codes.lean ====
section
/-! DEFINITION. The codes of the enumerated values (R197), the frame kinds (R187) and the function codes
(R164). -/

namespace Sys2Proof

/-- R197. -/
def Role.code : Role → Nat
  | .winch => 0 | .crowd => 1 | .rotary => 2 | .pack => 3 | .console => 4 | .other => 5

/-- R149: one of the six roles, or none. -/
def Role.ofCode : Nat → Option Role
  | 0 => some .winch | 1 => some .crowd | 2 => some .rotary | 3 => some .pack | 4 => some .console
  | 5 => some .other | _ => none

/-- R197. -/
def NodeState.code : NodeState → Nat
  | .listen => 0 | .setup => 1 | .ready => 2 | .run => 3 | .stopped => 4 | .parked => 5 | .fault => 6

/-- R197. -/
def DriveState.code : DriveState → Nat
  | .held => 0 | .releasing => 1 | .active => 2 | .setting => 3

/-- R197. -/
def ShareClass.code : ShareClass → Nat
  | .noClass => 0 | .guard => 1 | .work => 2 | .move => 3

/-- R134: a class as carried; a value outside the codes counts in no class (log 18). -/
def ShareClass.ofCode : Nat → ShareClass
  | 1 => .guard | 2 => .work | 3 => .move | _ => .noClass

/-- R197. -/
def ToolState.code : ToolState → Nat
  | .held => 0 | .opened => 1 | .closed => 2

/-- R197. -/
def ResetCause.code : ResetCause → Nat
  | .powerOn => 0 | .supplyDip => 1 | .resetLine => 2 | .requested => 3

/-- R197. -/
def PriorState.code : PriorState → Nat
  | .unknown => 0 | .parked => 1 | .stopped => 2 | .run => 3 | .other => 4

/-- R197. -/
def LineError.code : LineError → Nat
  | .noError => 0 | .parity => 1 | .framing => 2 | .truncated => 3 | .length => 4 | .crc => 5
  | .overrun => 6 | .txDrop => 7

/-- R197: a fault kind's bit number in the fault set; also the cause of a STOP frame (R199). -/
def FaultKind.bit : FaultKind → Nat
  | .strapInvalid => 0 | .duplicateStation => 1 | .roleConflict => 2 | .setupError => 3 | .lineFault => 4
  | .lockSlip => 5 | .overExtension => 6 | .slackRope => 7 | .guardStarved => 8

/-- R197. -/
def Tracking.code : Tracking → Nat
  | .unknown => 0 | .tracking => 1 | .suspended => 2

/-- R197. -/
def SlackWatch.code : SlackWatch → Nat
  | .clear => 0 | .timing => 1 | .raised => 2

/-- R197. -/
def TrackerEventKind.code : TrackerEventKind → Nat
  | .noEvent => 0 | .homeCorrection => 1 | .trackingLost => 2

/-- R197. -/
def Direction.code : Direction → Nat
  | .rest => 0 | .forward => 1 | .reverse => 2

/-- R197. -/
def LockEventKind.code : LockEventKind → Nat
  | .noEvent => 0 | .seated => 1 | .miss => 2 | .geometryStale => 3 | .released => 4

/-- R197. -/
def Result.code : Result → Nat
  | .done => 0 | .refusedState => 1 | .refusedInterlock => 2 | .badArgs => 3 | .busy => 4 | .superseded => 5
  | .aborted => 6 | .noOwner => 7 | .failed => 8 | .notParked => 9 | .parkInterrupted => 10

/-- R197. -/
def Reason.code : Reason → Nat
  | .noReason => 0 | .lockMiss => 1 | .partialLock => 2 | .relockFailed => 3 | .geometryStale => 4
  | .noClaim => 5 | .noOwner => 6 | .peerRefused => 7 | .peerLost => 8 | .timeout => 9 | .stalled => 10
  | .extensionEnd => 11 | .strokeEnd => 12 | .depthLimit => 13 | .topSeated => 14 | .toolNotClear => 15
  | .ownerFault => 16 | .lockSlip => 17 | .overExtension => 18 | .home => 19 | .stoppedByRequest => 20
  | .carried n => n

/-- R55: the reason of a received REPLY. -/
def Reason.ofCode : Nat → Reason
  | 0 => .noReason | 1 => .lockMiss | 2 => .partialLock | 3 => .relockFailed | 4 => .geometryStale
  | 5 => .noClaim | 6 => .noOwner | 7 => .peerRefused | 8 => .peerLost | 9 => .timeout | 10 => .stalled
  | 11 => .extensionEnd | 12 => .strokeEnd | 13 => .depthLimit | 14 => .topSeated | 15 => .toolNotClear
  | 16 => .ownerFault | 17 => .lockSlip | 18 => .overExtension | 19 => .home | 20 => .stoppedByRequest
  | n => .carried n

/-- R197. -/
def ParkState.code : ParkState → Nat
  | .notParked => 0 | .entering => 1 | .settled => 2 | .waking => 3

/-- R197. -/
def LineState.code : LineState → Nat
  | .normal => 0 | .listenOnly => 1 | .lineFault => 2

/-- R197. -/
def EntryState.code : EntryState → Nat
  | .claimed => 0 | .acting => 1 | .waitingPeers => 2

/-- R197. -/
def ClaimStatus.code : ClaimStatus → Nat
  | .unclaimed => 0 | .positive => 1 | .default => 2

/-- R197. -/
def StartStatus.code : StartStatus → Nat
  | .notNeeded => 0 | .waiting => 1 | .started => 2

/-- R197. -/
def SetupCause.code : SetupCause → Nat
  | .badItem => 1 | .missing => 2 | .range => 3 | .cross => 4

/-- R46, R197: the phase's place in its kind's order of phases, from 0. -/
def Phase.code : Phase → Nat
  | .prepare => 0 | .paying => 1 | .hauling => 1 | .boring => 1 | .spinning => 1
  | .unlocking => 0 | .tensioning => 1 | .pulling => 2 | .locking => 3 | .correcting => 4

/-- R187. -/
def FrameKind.code : FrameKind → Nat
  | .stop => 0x08 | .claim => 0x20 | .reply => 0x28 | .request => 0x40 | .publish => 0x60 | .setup => 0x68

/-- R187: one of the six frame kinds, or none. -/
def FrameKind.ofCode : Nat → Option FrameKind
  | 0x08 => some .stop | 0x20 => some .claim | 0x28 => some .reply | 0x40 => some .request
  | 0x60 => some .publish | 0x68 => some .setup | _ => none

/-- R192, R195: the class of a frame; 0 URGENT, 1 CLAIM/REPLY, 2 REQUEST, 3 PUBLISH. -/
def FrameKind.rank : FrameKind → Nat
  | .stop => 0 | .claim => 1 | .reply => 1 | .request => 2 | .publish => 3 | .setup => 3

/-- R192: the quiet gap of a frame's class, in bit times. -/
def FrameKind.gap : FrameKind → Nat
  | .stop => 10 | .claim => 13 | .reply => 13 | .request => 16 | .publish => 19 | .setup => 19

namespace Machine

/-- R197: drive mode codes, THRUST not withheld. -/
def Mode.code : Mode → Nat
  | .hold => 0 | .haul _ => 1 | .pay _ => 2 | .float _ => 3 | .feed _ _ => 4 | .pull _ _ => 5 | .thrust _ => 6
  | .turn _ => 8 | .lock => 9 | .release => 10 | .bore _ _ => 11 | .spin _ => 12

/-- R197: operation kind codes; NONE is 0. -/
def OpSpec.code : OpSpec → Nat
  | .lower _ => 1 | .lift _ => 2 | .extend _ _ _ => 3 | .bore _ _ _ _ => 4 | .spinOff _ => 5

/-- R197: qualifier codes. -/
def qualSet : Nat := 1
/-- R197: qualifier codes. -/
def qualQuery : Nat := 2
/-- R197: qualifier codes. -/
def qualBroadcast : Nat := 3

/-- R164: the function codes. -/
def Fn.start : Nat := 0x01
def Fn.halt : Nat := 0x02
def Fn.park : Nat := 0x10
def Fn.resetNode : Nat := 0x11
def Fn.clearFault : Nat := 0x12
def Fn.queryPeer : Nat := 0x13
def Fn.queryNode : Nat := 0x14
def Fn.winchMove : Nat := 0x20
def Fn.lower : Nat := 0x21
def Fn.lift : Nat := 0x22
def Fn.extend : Nat := 0x23
def Fn.setDatum : Nat := 0x24
def Fn.assertPicture : Nat := 0x25
def Fn.queryKelly : Nat := 0x2F
def Fn.crowdMove : Nat := 0x30
def Fn.queryCrowd : Nat := 0x3F
def Fn.rotaryMove : Nat := 0x40
def Fn.lock : Nat := 0x41
def Fn.release : Nat := 0x42
def Fn.bore : Nat := 0x43
def Fn.boreStop : Nat := 0x44
def Fn.spinOff : Nat := 0x45
def Fn.queryLocks : Nat := 0x4F
def Fn.toolOpen : Nat := 0xC0
def Fn.toolClose : Nat := 0xC1
def Fn.toolHold : Nat := 0xC2

end Machine
end Sys2Proof
end

