-- ==== Sys2Proof/Machine/Bytes.lean ====
section
/-! DEFINITION. Fields of bytes (R197): most significant byte first, two's complement where a quantity can
be negative, absent items as bytes 0xFF, two values packed in one byte high half first. -/

namespace Sys2Proof.Machine

/-- The `w` low bytes of a number, most significant first. -/
def natBytes : Nat → Nat → List Byte
  | 0, _ => []
  | w + 1, n => BitVec.ofNat 8 (n / 256 ^ w) :: natBytes w n

/-- R197: an unsigned quantity in `w` bytes; one that does not fit carries a free value (log 7). -/
def uItem (w n : Nat) : List Byte :=
  natBytes w (if n < 256 ^ w then n else Config.outOfFormat w n)

/-- R197: a signed quantity in `w` bytes; one that does not fit carries a free value (log 7). -/
def sItem (w : Nat) (x : Int) : List Byte :=
  natBytes w (if -(256 ^ w / 2 : Int) ≤ x ∧ x < 256 ^ w / 2 then (x % 256 ^ w).toNat
    else Config.outOfFormat w x)

/-- R197: an absent item. -/
def absentItem (w : Nat) : List Byte := List.replicate w 0xFF#8

/-- A one-byte item: a code, flag, count, tag, joint or pocket number. -/
def code1 (n : Nat) : List Byte := natBytes 1 n

/-- A flag (R197: 0 or 1). -/
def flag1 (b : Bool) : List Byte := code1 (if b then 1 else 0)

/-- An item that may be absent. -/
def optItem (w : Nat) : Option Nat → List Byte
  | none => absentItem w
  | some n => uItem w n

/-- R197: two values packed in one byte, the first in the high four bits. -/
def packed (hi lo : Nat) : List Byte := code1 ((hi % 16) * 16 + lo % 16)

/-- The number spelled by bytes, most significant first. -/
def readU (bs : List Byte) : Nat := bs.foldl (fun n b => n * 256 + b.toNat) 0

/-- The signed number spelled by bytes in two's complement. -/
def readS (bs : List Byte) : Int :=
  if 2 * readU bs < 256 ^ bs.length then readU bs else (readU bs : Int) - 256 ^ bs.length

/-- `w` bytes from place `i`. -/
def field (i w : Nat) (bs : List Byte) : List Byte := (bs.drop i).take w

/-- The unsigned field of `w` bytes at place `i`. -/
def fieldU (i w : Nat) (bs : List Byte) : Nat := readU (field i w bs)

/-- The signed field of `w` bytes at place `i`. -/
def fieldS (i w : Nat) (bs : List Byte) : Int := readS (field i w bs)

/-- The high four bits of the byte at place `i`. -/
def highAt (i : Nat) (bs : List Byte) : Nat := fieldU i 1 bs / 16

/-- The low four bits of the byte at place `i`. -/
def lowAt (i : Nat) (bs : List Byte) : Nat := fieldU i 1 bs % 16

/-- A content cut in order into pieces of `n` bytes; an empty content is one empty piece. `fuel` bounds
the number of pieces. -/
def cutEvery (n : Nat) : Nat → List Byte → List (List Byte)
  | 0, _ => []
  | fuel + 1, bs => if bs.length ≤ n then [bs] else bs.take n :: cutEvery n fuel (bs.drop n)

end Sys2Proof.Machine
end

