-- ==== Sys2Proof/Machine/Frames.lean ====
section
/-! DEFINITION. Characters (R186), frames and their CRC (R187, R188), and what a received payload says by
kind (R198, R199). -/

namespace Sys2Proof.Machine

/-! ### Characters and the check value -/

/-- R186: whether a character's data bits and parity bit together hold an odd number of 1s. -/
def parityOdd (data : Byte) (parity : Bool) : Bool :=
  (List.range 8).foldl (fun p i => xor p (data.getLsbD i)) parity

/-- R186: the parity bit of a character as sent: with it the 1s are odd in number. -/
def parityBit (data : Byte) : Bool := !parityOdd data false

/-- R186: the eleven bits of a character as sent: a start bit of 0, the data bits least significant first, the parity
bit and a stop bit of 1. -/
def characterBits (data : Byte) : List Bool :=
  false :: (List.range 8).map (fun i => data.getLsbD i) ++ [parityBit data, true]

/-- R188: one data bit enters the register. -/
def crcBit (reg : BitVec 16) (bit : Bool) : BitVec 16 :=
  let shifted := reg <<< 1
  if reg.getLsbD 15 = bit then shifted else shifted ^^^ 0x1021#16

/-- R188: a byte enters most significant bit first. -/
def crcByte (reg : BitVec 16) (b : Byte) : BitVec 16 :=
  [7, 6, 5, 4, 3, 2, 1, 0].foldl (fun r i => crcBit r (b.getLsbD i)) reg

/-- R188: the check value of a run of bytes. -/
def crc16 (bs : List Byte) : BitVec 16 := bs.foldl crcByte 0xFFFF#16

/-- R187, R188: the characters of a frame as sent. -/
def frameChars (kind src : Byte) (payload : List Byte) : List Byte :=
  let body := kind :: src :: BitVec.ofNat 8 payload.length :: payload
  body ++ natBytes 2 (crc16 body).toNat

/-- R187: the number of characters of a frame whose first characters are given: LEN + 5 once LEN has
been taken, and not yet known before. -/
def frameLength (chars : List Byte) : Option Nat :=
  match chars with
  | _ :: _ :: len :: _ => some (len.toNat + 5)
  | _ => none

/-- R187: the frame that a complete run of characters spells, when its CRC matches (R188). -/
def frameOfChars (chars : List Byte) : Option RxFrame :=
  match chars with
  | kind :: src :: len :: rest =>
    let payload := rest.take len.toNat
    let body := kind :: src :: len :: payload
    if rest.length = len.toNat + 2 ∧ readU (rest.drop len.toNat) = (crc16 body).toNat then
      some { kind := kind, src := src, payload := payload, waited := 0 }
    else none
  | _ => none

/-- The kind of a received frame, when it is one of the six (R191). -/
def RxFrame.kind? (f : RxFrame) : Option FrameKind := FrameKind.ofCode f.kind.toNat

/-! ### Payloads other than PUBLISH (R199) -/

/-- R163: what a REQUEST frame carries. -/
structure Request where
  requester : Nat
  fn : Nat
  qual : Nat
  tag : Nat
  args : List Byte
  deriving DecidableEq, Repr

/-- R199: the REQUEST a frame carries; minimum LEN 3. -/
def RxFrame.request? (f : RxFrame) : Option Request :=
  if f.kind? = some .request ∧ 3 ≤ f.payload.length then
    some { requester := f.src.toNat, fn := fieldU 0 1 f.payload, qual := fieldU 1 1 f.payload,
           tag := fieldU 2 1 f.payload, args := f.payload.drop 3 }
  else none

/-- R199: what a CLAIM frame carries; the claim kind as carried (0 POSITIVE, 1 DEFAULT). -/
structure ClaimFrame where
  src : Nat
  requester : Nat
  tag : Nat
  fn : Nat
  kind : Nat
  deriving DecidableEq, Repr

/-- R199: the CLAIM a frame carries; LEN 4. Of a longer one the further bytes are not read (DESIGN CHOICE, log 46). -/
def RxFrame.claim? (f : RxFrame) : Option ClaimFrame :=
  if f.kind? = some .claim ∧ 4 ≤ f.payload.length then
    some { src := f.src.toNat, requester := fieldU 0 1 f.payload, tag := fieldU 1 1 f.payload,
           fn := fieldU 2 1 f.payload, kind := fieldU 3 1 f.payload }
  else none

/-- R199: what a REPLY frame carries; result and reason as carried. -/
structure ReplyFrame where
  src : Nat
  requester : Nat
  tag : Nat
  fn : Nat
  result : Nat
  reason : Nat
  content : List Byte
  deriving DecidableEq, Repr

/-- R199: the REPLY a frame carries; minimum LEN 6. -/
def RxFrame.reply? (f : RxFrame) : Option ReplyFrame :=
  if f.kind? = some .reply ∧ 6 ≤ f.payload.length then
    some { src := f.src.toNat, requester := fieldU 0 1 f.payload, tag := fieldU 1 1 f.payload,
           fn := fieldU 2 1 f.payload, result := fieldU 3 1 f.payload, reason := fieldU 4 1 f.payload,
           content := f.payload.drop 6 }
  else none

/-- R199: the SRC and cause of a STOP frame; LEN 1. Of a longer one the further bytes are not read (DESIGN CHOICE, log
46). -/
def RxFrame.stop? (f : RxFrame) : Option (Nat × Nat) :=
  if f.kind? = some .stop ∧ 1 ≤ f.payload.length then some (f.src.toNat, fieldU 0 1 f.payload) else none

/-- R201: an item record of a SETUP frame. -/
structure ItemRecord where
  code : Nat
  index : Nat
  value : Int
  deriving DecidableEq, Repr

/-- R199: the item records of five bytes each, in the order carried; bytes after the last whole record
are not read (log 14). `fuel` bounds the number of records. -/
def itemRecords : Nat → List Byte → List ItemRecord
  | 0, _ => []
  | fuel + 1, bs =>
    if bs.length < 5 then []
    else { code := fieldU 0 1 bs, index := fieldU 1 1 bs, value := fieldS 2 3 bs } ::
      itemRecords fuel (bs.drop 5)

/-- R199: the item records of a SETUP frame; minimum LEN 5. -/
def RxFrame.setup? (f : RxFrame) : Option (List ItemRecord) :=
  if f.kind? = some .setup ∧ 5 ≤ f.payload.length then some (itemRecords 10 f.payload) else none

/-! ### PUBLISH payloads (R198) -/

/-- R198: the length of the role part. -/
def rolePartLength : Role → Nat
  | .winch => 35 | .crowd => 7 | .rotary => 19 | .pack => 2 | .console => 0 | .other => 0

/-- R198: the WINCH role part. A stack length above the six places of bytes 35 to 37 keeps the six numbers (DESIGN
CHOICE, log 39). -/
def readWinchPart (p : List Byte) : WinchPart :=
  { payout := fieldS 12 3 p, depth := fieldS 15 3 p, ext := fieldS 18 3 p, tracking := highAt 21 p,
    slack := lowAt 21 p, residue := fieldS 22 2 p, j := highAt 24 p,
    exts := [fieldU 25 2 p, fieldU 27 2 p, fieldU 29 2 p, fieldU 31 2 p, fieldU 33 2 p],
    stack := ([highAt 35 p, lowAt 35 p, highAt 36 p, lowAt 36 p, highAt 37 p, lowAt 37 p]).take (lowAt 24 p),
    tension := fieldU 38 2 p, speed := fieldS 40 2 p, evKind := fieldU 42 1 p, evAmount := fieldS 43 3 p,
    evSeq := fieldU 46 1 p }

/-- R198: the CROWD role part. -/
def readCrowdPart (p : List Byte) : CrowdPart :=
  { stroke := fieldS 12 2 p, force := fieldU 14 2 p, speed := fieldS 16 2 p, withheld := fieldU 18 1 p }

/-- R198: the ROTARY role part. -/
def readRotaryPart (p : List Byte) : RotaryPart :=
  { angle := fieldU 12 2 p, speed := fieldS 14 2 p, torque := fieldS 16 2 p, validity := highAt 18 p,
    dir := lowAt 18 p, j := fieldU 19 1 p,
    locks := [fieldU 20 1 p, fieldU 21 1 p, fieldU 22 1 p, fieldU 23 1 p, fieldU 24 1 p],
    evKind := fieldU 25 1 p, evTravel := fieldU 26 2 p, evSeq := fieldU 28 1 p, attempts := highAt 29 p,
    stall := lowAt 29 p, opKind := highAt 30 p, opPhase := lowAt 30 p }

/-- R198: the role part by role. -/
def readRolePart (role : Role) (p : List Byte) : RolePart :=
  match role with
  | .winch => .winch (readWinchPart p)
  | .crowd => .crowd (readCrowdPart p)
  | .rotary => .rotary (readRotaryPart p)
  | .pack => .pack (fieldU 12 2 p)
  | .console => .empty
  | .other => .empty

/-- R198: the common part with the role part; bits 9 to 15 of the fault set are not read (R197). -/
def readSnapshot (role : Role) (p : List Byte) : Snapshot :=
  { nodeState := lowAt 0 p, driveState := highAt 1 p, driveMode := lowAt 1 p,
    faults := fieldU 2 2 p % 512, cls := highAt 4 p, tool := lowAt 4 p, kw := fieldU 5 2 p,
    cause := highAt 9 p, prior := lowAt 9 p, errRun := fieldU 10 1 p, lastError := fieldU 11 1 p,
    part := readRolePart role p }

/-- A publication as the Peer Table takes it. -/
structure Publication where
  role : Role
  period : Nat
  snap : Snapshot
  deriving DecidableEq, Repr

/-- R149, R198: the publication a payload holds: one of the six roles, a declared period of 10..3000 ms,
the whole common part and the whole role part. -/
def readPublication (p : List Byte) : Option Publication :=
  match Role.ofCode (highAt 0 p) with
  | none => none
  | some role =>
    if 12 + rolePartLength role ≤ p.length ∧ 10 ≤ fieldU 7 2 p ∧ fieldU 7 2 p ≤ 3000 then
      some { role := role, period := fieldU 7 2 p, snap := readSnapshot role p }
    else none

end Sys2Proof.Machine
end

