-- ==== Sys2Proof/Machine/Flags.lean ====
section
/-! DEFINITION. The node's flags: the fault set (R197, R206), the stop pull (R205), and the published face
of the Axis Drive, whose changes are signalled (R88, R93, R104, R113, R120). -/

namespace Sys2Proof.Machine

/-- Whether a fault kind is in the set. -/
def FaultSet.has (f : FaultSet) : FaultKind → Bool
  | .strapInvalid => f.strapInvalid | .duplicateStation => f.duplicateStation
  | .roleConflict => f.roleConflict | .setupError => f.setupError | .lineFault => f.lineFault
  | .lockSlip => f.lockSlip | .overExtension => f.overExtension | .slackRope => f.slackRope
  | .guardStarved => f.guardStarved

/-- The set with a fault kind set or removed. -/
def FaultSet.put (f : FaultSet) (k : FaultKind) (b : Bool) : FaultSet :=
  match k with
  | .strapInvalid => { f with strapInvalid := b }
  | .duplicateStation => { f with duplicateStation := b }
  | .roleConflict => { f with roleConflict := b }
  | .setupError => { f with setupError := b }
  | .lineFault => { f with lineFault := b }
  | .lockSlip => { f with lockSlip := b }
  | .overExtension => { f with overExtension := b }
  | .slackRope => { f with slackRope := b }
  | .guardStarved => { f with guardStarved := b }

/-- One bit of the fault set as a number. -/
def bitOf (b : Bool) (k : FaultKind) : Nat := if b then 2 ^ k.bit else 0

/-- R197: the fault set as carried, one bit for each kind. -/
def FaultSet.code (f : FaultSet) : Nat :=
  bitOf f.strapInvalid .strapInvalid + bitOf f.duplicateStation .duplicateStation
    + bitOf f.roleConflict .roleConflict + bitOf f.setupError .setupError + bitOf f.lineFault .lineFault
    + bitOf f.lockSlip .lockSlip + bitOf f.overExtension .overExtension + bitOf f.slackRope .slackRope
    + bitOf f.guardStarved .guardStarved

/-- R205: whether a kind is a cause of the pull. -/
def StopPull.has (p : StopPull) : FaultKind → Bool
  | .lockSlip => p.lockSlip | .overExtension => p.overExtension | .slackRope => p.slackRope
  | _ => false

/-- R205: the pull with a cause set or removed; the other kinds are no causes of a pull. -/
def StopPull.put (p : StopPull) (k : FaultKind) (b : Bool) : StopPull :=
  match k with
  | .lockSlip => { p with lockSlip := b }
  | .overExtension => { p with overExtension := b }
  | .slackRope => { p with slackRope := b }
  | _ => p

/-- R205: the node drives the stop line while the set is not empty. -/
def StopPull.pulls (p : StopPull) : Bool := p.lockSlip || p.overExtension || p.slackRope

/-- The pull as carried in QUERY_NODE: the bits of its causes in a fault set (log 13). -/
def StopPull.code (p : StopPull) : Nat :=
  bitOf p.lockSlip .lockSlip + bitOf p.overExtension .overExtension + bitOf p.slackRope .slackRope

/-- R120: the STALL_RECOVERY flag. -/
def Drive.stallFlag (d : Drive) : Bool := d.recovery != .boring

/-- R197: the drive mode code published; THRUST_WITHHELD is 7 (R88, R113). -/
def Drive.modeCode (d : Drive) : Nat :=
  match d.mode with
  | .thrust _ => if d.withheld then 7 else 6
  | m => m.code

/-- What a change of the drive record is signalled for (R88, R93, R104, R113, R120). Modes are compared by
their codes: R88 does not signal a setpoint (log 25). -/
structure DriveFace where
  state : DriveState
  mode : Nat
  pending : Option Nat
  claim : Claim
  tool : ToolState
  slack : SlackWatch
  stallFlag : Bool
  attempts : Nat
  deriving DecidableEq, Repr

/-- The face of a drive record. -/
def Drive.face (d : Drive) : DriveFace :=
  { state := d.state, mode := d.modeCode, pending := d.pending.map Mode.code, claim := d.claim,
    tool := d.tool, slack := d.slack, stallFlag := d.stallFlag, attempts := d.attempts }

/-- R113: THRUST in RELEASING or ACTIVE, where thrust can be withheld. -/
def Drive.thrusting (d : Drive) : Bool :=
  match d.mode, d.state with
  | .thrust _, .releasing => true
  | .thrust _, .active => true
  | _, _ => false

/-- R121: ACTIVE in BORE or SPIN, where the stall watch is judged. -/
def Drive.stallJudged (d : Drive) : Bool :=
  match d.mode, d.state with
  | .bore _ _, .active => true
  | .spin _, .active => true
  | _, _ => false

/-- R120, R122: the BORE mode in the drive record, whose ends clear the recovery. -/
def Drive.boring (d : Drive) : Bool :=
  match d.mode with
  | .bore _ _ => true
  | _ => false

/-- R132: the SPIN mode in the drive record, whose ends clear the spin record. -/
def Drive.spinning (d : Drive) : Bool :=
  match d.mode with
  | .spin _ => true
  | _ => false

/-- What the end of a mode does to the records of that mode: the withheld flag (R113), the stall watch
(R121), the recovery phase (R120) and the spin record (R132). -/
def Drive.tidy (d : Drive) : Drive :=
  { d with
    withheld := d.withheld && d.thrusting
    stall := if d.stallJudged then d.stall else .clear
    stallTimer := if d.stallJudged then d.stallTimer else none
    recovery := if d.boring then d.recovery else .boring
    spin := if d.spinning then d.spin else Spin.unused }

end Sys2Proof.Machine
end

