-- ==== Sys2Proof/Machine/Ops.lean ====
section
/-! DEFINITION. The named operations that every block shares: one field of the state replaced, a change
signalled (R160), a frame offered to the transmit queue or withdrawn from it (R195, R196), a REPLY queued
(R172, R176, R199), a tag taken (R184), a fault kind set or removed (R197, R206), the stop line pulled
(R205) and the drive record replaced (R88). -/

namespace Sys2Proof.Machine

/-- The state with another `pending`. -/
def State.withPending (s : State) (x : List Instr) : State := { s with pending := x }
/-- The state with another `clockUs`. -/
def State.withClockUs (s : State) (x : Nat) : State := { s with clockUs := x }
/-- The state with another `sens`. -/
def State.withSens (s : State) (x : Sensors) : State := { s with sens := x }
/-- The state with another `node`. -/
def State.withNode (s : State) (x : NodeCtl) : State := { s with node := x }
/-- The state with another `line`. -/
def State.withLine (s : State) (x : LinePort) : State := { s with line := x }
/-- The state with another `req`. -/
def State.withReq (s : State) (x : RequestUnit) : State := { s with req := x }
/-- The state with another `peers`. -/
def State.withPeers (s : State) (x : List Peer) : State := { s with peers := x }
/-- The state with another `pub`. -/
def State.withPub (s : State) (x : Assembler) : State := { s with pub := x }
/-- The state with another `share`. -/
def State.withShare (s : State) (x : ShareArbiter) : State := { s with share := x }
/-- The state with another `trk`. -/
def State.withTrk (s : State) (x : Tracker) : State := { s with trk := x }
/-- The state with another `locks`. -/
def State.withLocks (s : State) (x : LockMonitor) : State := { s with locks := x }
/-- The state with another `drv`. -/
def State.withDrv (s : State) (x : Drive) : State := { s with drv := x }
/-- The state with another `op`. -/
def State.withOp (s : State) (x : Option OpRecord) : State := { s with op := x }

/-! ### Change signals, straps -/

/-- R160: a change is signalled to the Publication Assembler. -/
def State.signal (s : State) : State := s.withPub { s.pub with signal := true }

/-- R160: a change is signalled when the condition holds. -/
def State.signalIf (b : Bool) (s : State) : State := if b then s.signal else s

/-- R200: the node's own station number. -/
def State.station (s : State) : Nat := s.node.straps.station

/-- R200: the node's role; none when the role strap is invalid. -/
def State.role (s : State) : Option Role :=
  match s.node.straps.role with
  | 0 => some .winch
  | 1 => some .crowd
  | 2 => some .rotary
  | _ => none

/-- R200: whether some strap holds an invalid code. -/
def State.strapsInvalid (s : State) : Bool :=
  s.node.straps.station == 0 || s.node.straps.role == 3 || s.node.straps.baud == 3

/-- R185: one bit time in microseconds; with code 3 the Line Port is dead and 8 µs times the idle step
(log 2). -/
def State.bitUs (s : State) : Nat :=
  match s.node.straps.baud with
  | 1 => 4
  | 2 => 2
  | _ => 8

/-- A window of n bit times (R178). -/
def State.bitTimes (s : State) (n : Nat) : Timer := some (n * s.bitUs)

/-- R155, R196: the node is silent for a duplicate station. -/
def State.silenced (s : State) : Bool := s.node.faults.duplicateStation

/-! ### The transmit queue -/

/-- R195: behind every frame of its class and of the classes before it. -/
def enterAtTail (f : TxFrame) (q : List TxFrame) : List TxFrame :=
  q.takeWhile (fun g => g.kind.rank ≤ f.kind.rank) ++ f :: q.dropWhile (fun g => g.kind.rank ≤ f.kind.rank)

/-- R196: ahead of the frames of its class. -/
def enterAtHead (f : TxFrame) (q : List TxFrame) : List TxFrame :=
  q.takeWhile (fun g => g.kind.rank < f.kind.rank) ++ f :: q.dropWhile (fun g => g.kind.rank < f.kind.rank)

/-- Whether a queued frame is a PUBLISH. -/
def TxFrame.isPublish (f : TxFrame) : Bool := f.kind == .publish

/-- R158: the queued-publication flag. -/
def State.publishQueued (s : State) : Bool := s.line.queue.any TxFrame.isPublish

/-- R181: the default record whose frame this is, when it is one. -/
def Producer.record : Producer → Option Nat
  | .defaultClaim n => some n
  | .defaultReply n => some n
  | _ => none

/-- R181, R182: the default records without record n. -/
def State.dropRecord (n : Nat) (s : State) : State :=
  s.withReq { s.req with defaults := s.req.defaults.filter (fun r => r.id != n) }

/-- R195: a frame dropped from a full queue: TX_DROP, and the default claimant removes its record. The
other producers act on a drop by their own timers. -/
def State.dropped (f : TxFrame) (s : State) : State :=
  let s := s.withLine { s.line with lastError := .txDrop }
  match f.owner.record with
  | some n => s.dropRecord n
  | none => s

/-- The state with another transmit queue. -/
def State.withQueue (s : State) (q : List TxFrame) : State := s.withLine { s.line with queue := q }

/-- R195: a frame offered to the queue, entering its class where `enter` puts it. -/
def State.offerAt (enter : TxFrame → List TxFrame → List TxFrame) (f : TxFrame) (s : State) : State :=
  let q := s.line.queue
  if s.silenced then s
  else if f.isPublish && q.any TxFrame.isPublish then
    s.withQueue (q.map fun g => if g.isPublish then f else g)
  else if q.length < 6 then s.withQueue (enter f q)
  else if !f.isPublish && q.any TxFrame.isPublish then
    s.withQueue (enter f (q.filter fun g => !g.isPublish))
  else s.dropped f

/-- R195: a new frame enters at the tail of its class. -/
def State.offer (f : TxFrame) (s : State) : State := s.offerAt enterAtTail f

/-- Frames offered in order. -/
def State.offerAll (fs : List TxFrame) (s : State) : State := fs.foldl (fun s f => s.offer f) s

/-- R196: a frame that lost its attempt returns to the head of its class; a PUBLISH is discarded when a
newer one is queued. -/
def State.returnFrame (f : TxFrame) (s : State) : State :=
  if f.isPublish && s.publishQueued then s else s.offerAt enterAtHead f

/-- R196: a producer withdraws its frames: those queued are removed, one in the shifter is marked. -/
def State.withdraw (mine : Producer → Bool) (s : State) : State :=
  s.withLine { s.line with
    queue := s.line.queue.filter (fun f => !mine f.owner)
    shifter := s.line.shifter.map fun f => if mine f.owner then { f with withdrawn := true } else f }

/-- The frames of default record n. -/
def Producer.ofRecord (n : Nat) (p : Producer) : Bool := p.record == some n

/-- The frames of any default record. -/
def Producer.ofAnyRecord (p : Producer) : Bool := p.record.isSome

/-- The REQUESTs of sub-requests. -/
def Producer.isSubRequest : Producer → Bool
  | .subRequest _ _ => true
  | _ => false

/-- R180: every default record is removed and its queued frames are withdrawn. -/
def State.dropRecords (s : State) : State :=
  (s.withReq { s.req with defaults := [] }).withdraw Producer.ofAnyRecord

/-! ### Frames of the node (R199) -/

/-- R199: a CLAIM; `kind` 0 POSITIVE, 1 DEFAULT. -/
def claimFrame (owner : Producer) (requester tag fn kind : Nat) : TxFrame :=
  { kind := .claim, payload := code1 requester ++ code1 tag ++ code1 fn ++ code1 kind, owner := owner,
    withdrawn := false }

/-- R199: the parts of a REPLY, cut at 42 bytes of content. -/
def replyFrames (owner : Producer) (requester tag fn : Nat) (res : Result) (why : Reason)
    (content : List Byte) : List TxFrame :=
  let parts := cutEvery 42 15 content
  parts.zipIdx.map fun (part, i) =>
    { kind := .reply
      payload := code1 requester ++ code1 tag ++ code1 fn ++ code1 res.code ++ code1 why.code
        ++ packed (i + 1) parts.length ++ part
      owner := owner, withdrawn := false }

/-- R199: a STOP naming a fault kind as cause. -/
def stopFrame (k : FaultKind) : TxFrame :=
  { kind := .stop, payload := code1 k.bit, owner := .nodeControl, withdrawn := false }

/-- R199: a REQUEST with qualifier SET. -/
def requestFrame (owner : Producer) (fn tag : Nat) (args : List Byte) : TxFrame :=
  { kind := .request, payload := code1 fn ++ code1 qualSet ++ code1 tag ++ args, owner := owner,
    withdrawn := false }

/-! ### The request table -/

/-- R170: the entry with a number. -/
def State.entryOf (s : State) (id : Nat) : Option ReqEntry := s.req.table.find? (fun e => e.id == id)

/-- R170: the table without an entry. -/
def State.removeEntry (id : Nat) (s : State) : State :=
  s.withReq { s.req with table := s.req.table.filter (fun e => e.id != id) }

/-- R173: an entry's state. -/
def State.setEntry (id : Nat) (st : EntryState) (s : State) : State :=
  s.withReq { s.req with table := s.req.table.map fun e => if e.id == id then { e with state := st } else e }

/-- R172, R173: the REPLY of an entry is queued and the entry removed. -/
def State.reply (e : ReqEntry) (res : Result) (why : Reason := .noReason) (content : List Byte := [])
    (s : State) : State :=
  (s.offerAll (replyFrames .requestUnit e.requester e.tag e.fn res why content)).removeEntry e.id

/-- The REPLY of the entry with a number, when the table holds it. -/
def State.replyTo (id : Nat) (res : Result) (why : Reason := .noReason) (content : List Byte := [])
    (s : State) : State :=
  match s.entryOf id with
  | some e => s.reply e res why content
  | none => s

/-- R174: an entry that the emptying of the table replies; a RESET_NODE that awaits its reset stays. -/
def ReqEntry.emptied (e : ReqEntry) : Bool := !(e.fn == Fn.resetNode && e.state == .claimed)

/-- R174: the table is emptied with ABORTED replies, in claim order. -/
def State.emptyTable (s : State) : State :=
  (s.req.table.filter ReqEntry.emptied).foldl (fun s e => s.reply e .aborted) s

/-! ### Tags -/

/-- R184: the tag counter after a REQUEST took its value. -/
def State.takeTag (s : State) : State := s.withReq { s.req with tagCtr := (s.req.tagCtr + 1) % 256 }

/-! ### Fault set and stop pull -/

/-- R160, R197: a fault kind is set; a change of the set is signalled. -/
def State.setFault (k : FaultKind) (s : State) : State :=
  (s.withNode { s.node with faults := s.node.faults.put k true }).signalIf (!s.node.faults.has k)

/-- R160, R206: a fault kind is removed; a change of the set is signalled. -/
def State.clearFault (k : FaultKind) (s : State) : State :=
  (s.withNode { s.node with faults := s.node.faults.put k false }).signalIf (s.node.faults.has k)

/-- R205: a block raises a kind that pulls the stop line: the kind is set, added to the pull, and a STOP is
queued, also when it is in the set already. -/
def State.raiseStop (k : FaultKind) (s : State) : State :=
  let s := (s.setFault k).signal
  (s.withNode { s.node with pull := s.node.pull.put k true }).offer (stopFrame k)

/-! ### The drive record -/

/-- R88, R93, R104, R113, R120: the drive record is replaced, tidied, and a change of its face signalled. -/
def State.setDrv (d : Drive) (s : State) : State :=
  (s.withDrv d.tidy).signalIf (decide (d.tidy.face ≠ s.drv.face))

end Sys2Proof.Machine
end

