-- ==== Sys2Proof/Machine/Views.lean ====
section
/-! DEFINITION. What a node computes from its state: the serving entries or mirrors (R152), the judgements
of the mirrors (R4, R72, R112, R118, R130), the extension figures (R3, R22, R24) and pocket geometry (R27). -/

namespace Sys2Proof.Machine

/-! ### Peer entries -/

/-- R136, R152: FRESH or AGED. -/
def Peer.live (p : Peer) : Bool := p.presence == .fresh || p.presence == .aged

/-- R149: the entry shows node state RUN. -/
def Peer.showsRun (p : Peer) : Bool := p.snap.nodeState == NodeState.run.code

/-- R148: the entry of a station, none while ABSENT. -/
def entryAt (n : Nat) (ps : List Peer) : Option Peer := ps.find? (fun p => p.station == n)

/-- R148: an entry put in its station's place; the list stays in rising order of station. -/
def putPeer (p : Peer) : List Peer → List Peer
  | [] => [p]
  | q :: qs =>
    if p.station < q.station then p :: q :: qs
    else if p.station == q.station then p :: qs
    else q :: putPeer p qs

/-- R152: the serving entry of a role at the node with station `own`: the lowest-numbered FRESH or AGED
entry of another station with that role, else the lowest-numbered LOST one. -/
def servingEntry (own : Nat) (role : Role) (ps : List Peer) : Option Peer :=
  let held := ps.filter fun p => p.role == role && p.station != own
  match held.find? Peer.live with
  | some p => some p
  | none => held.head?

/-- R152: the mirror of a role. -/
def State.mirror (s : State) (role : Role) : Option Peer := servingEntry s.station role s.peers

/-- The winch part of a winch mirror. -/
def Peer.winch? (p : Peer) : Option WinchPart :=
  match p.snap.part with
  | .winch w => some w
  | _ => none

/-- The crowd part of a crowd mirror. -/
def Peer.crowd? (p : Peer) : Option CrowdPart :=
  match p.snap.part with
  | .crowd c => some c
  | _ => none

/-- The rotary part of a rotary mirror. -/
def Peer.rotary? (p : Peer) : Option RotaryPart :=
  match p.snap.part with
  | .rotary r => some r
  | _ => none

/-- The entry satisfies a condition; an absent entry does not. -/
def holdsAt (p : Option Peer) (cond : Peer → Bool) : Bool :=
  match p with
  | some q => cond q
  | none => false

/-- The entry's winch part satisfies a condition. -/
def Peer.winchShows (p : Peer) (cond : WinchPart → Bool) : Bool := (p.winch?.map cond).getD false

/-- The entry's rotary part satisfies a condition. -/
def Peer.rotaryShows (p : Peer) (cond : RotaryPart → Bool) : Bool := (p.rotary?.map cond).getD false

/-- R198: an extension carried above 0 shows the joint OPEN; joints are matched by number. -/
def WinchPart.openAt (w : WinchPart) (j : Nat) : Bool := decide (1 ≤ j ∧ j ≤ w.j) && (w.exts.getD (j - 1) 0 != 0)

/-- R198: the extension the winch mirror shows for a joint. -/
def WinchPart.extAt (w : WinchPart) (j : Nat) : Nat := w.exts.getD (j - 1) 0

/-- R198: the pocket the rotary mirror shows for a joint it holds a record for, none when FREE. -/
def RotaryPart.pocketAt (r : RotaryPart) (j : Nat) : Option Nat :=
  if 1 ≤ j ∧ j ≤ r.j ∧ r.locks.getD (j - 1) 0 ≠ 0 then some (r.locks.getD (j - 1) 0 - 1) else none

/-- R112: the rotary mirror shows the joint SEATED. -/
def RotaryPart.seatedAt (r : RotaryPart) (j : Nat) : Bool := (r.pocketAt j).isSome

/-- R4: the rotary mirror shows the joint FREE; a joint it holds no record for is neither (log 18). -/
def RotaryPart.freeAt (r : RotaryPart) (j : Nat) : Bool :=
  decide (1 ≤ j ∧ j ≤ r.j) && (r.locks.getD (j - 1) 0 == 0)

/-- The joints a winch part shows OPEN (R112, R118); a part carries at most five. -/
def WinchPart.openJoints (w : WinchPart) : List Nat := [1, 2, 3, 4, 5].filter w.openAt

/-! ### Geometry -/

/-- R1: J, the committed SECTIONS less one; 0 before the commit. -/
def State.jointCount (s : State) : Nat := s.node.setup.joints.length

/-- The geometry of a joint. -/
def State.geom (s : State) (j : Nat) : JointGeom :=
  s.node.setup.joints.getD (j - 1) { slide := 0, pitch := 1, tol := 0 }

/-- The joint numbers 1..J. -/
def State.jointNumbers (s : State) : List Nat := (List.range s.jointCount).map (· + 1)

/-- R27: the pocket count of a joint. -/
def JointGeom.pockets (g : JointGeom) : Nat := g.slide / g.pitch + 1

/-- R27: the magnitude of a difference. -/
def distance (a b : Nat) : Nat := (a - b) + (b - a)

/-- R27: the pocket, of `count`, with which an extension is aligned. -/
def JointGeom.alignedPocket (g : JointGeom) (count x : Nat) : Option Nat :=
  (List.range count).find? fun k => decide (distance x (k * g.pitch) ≤ g.tol)

/-! ### Mirrors as the tracker judges them (R4) -/

/-- R4: the crowd mirror is good. -/
def State.crowdGood (s : State) : Bool := holdsAt (s.mirror .crowd) fun p => p.live && p.showsRun

/-- R4: the rotary mirror is good. -/
def State.rotaryGood (s : State) : Bool :=
  holdsAt (s.mirror .rotary) fun p => p.live && p.showsRun && p.rotaryShows (fun r => r.validity == 1)

/-- R4: both mirrors are good. -/
def State.bothGood (s : State) : Bool := s.crowdGood && s.rotaryGood

/-- R4: the crowd stroke is available. -/
def State.strokeAvailable (s : State) : Bool := holdsAt (s.mirror .crowd) Peer.live

/-- R3: the T in use: 0 while the crowd mirror is ABSENT, else the stroke of its snapshot. -/
def State.strokeInUse (s : State) : Int := (((s.mirror .crowd).bind Peer.crowd?).map (·.stroke)).getD 0

/-- The rotary part of the rotary mirror. -/
def State.lockMirror (s : State) : Option RotaryPart := (s.mirror .rotary).bind Peer.rotary?

/-- R4: FREE in the lock mirror. -/
def State.freeInMirror (s : State) (j : Nat) : Bool := (s.lockMirror.map (·.freeAt j)).getD false

/-- R4: SEATED in the lock mirror. -/
def State.seatedInMirror (s : State) (j : Nat) : Bool := (s.lockMirror.map (·.seatedAt j)).getD false

/-! ### The extension figures -/

/-- R3: the tracked extension E. -/
def State.E (s : State) : Int := s.sens.payout - s.strokeInUse - s.trk.ropeOffset

/-- R22: the tool depth D. -/
def State.D (s : State) : Int := s.sens.payout - s.trk.ropeOffset - s.trk.datumOffset

/-- R1: a joint's record. -/
def Tracker.joint (t : Tracker) (j : Nat) : JointRec := t.joints.getD (j - 1) JointRec.closed

/-- R24: the number of the top joint. -/
def Tracker.top (t : Tracker) : Option Nat := t.stack.head?

/-- R24: the lowest-numbered CLOSED joint. -/
def State.lowestClosed (s : State) : Option Nat := s.jointNumbers.find? fun j => !(s.trk.joint j).opened

/-- R8, R24: a joint's headroom. -/
def State.headroom (s : State) (j : Nat) : Nat := (s.geom j).slide - (s.trk.joint j).ext

/-- R24: the extension room. -/
def State.room (s : State) : Nat :=
  if s.trk.state ≠ .tracking then 0
  else
    let closedFree :=
      ((s.jointNumbers.filter fun j => !(s.trk.joint j).opened && s.freeInMirror j).map
        fun j => (s.geom j).slide).sum
    match s.trk.top with
    | none => closedFree
    | some t =>
      if s.seatedInMirror t then 0
      else (if s.freeInMirror t then s.headroom t else 0) + closedFree

/-- R100, R101: the top joint is SEATED in the lock mirror. -/
def State.topSeated (s : State) : Bool :=
  match s.trk.top with
  | none => false
  | some t => s.seatedInMirror t

/-- R1, R8: the sum of the joint extensions. -/
def Tracker.extSum (t : Tracker) : Nat := (t.joints.map (·.ext)).sum

/-! ### Conditions on the mirrors read by the drive and the operations -/

/-- The node's own lock table holds the joint SEATED (R26). -/
def LockMonitor.seatedAt (l : LockMonitor) (j : Nat) : Bool :=
  decide (1 ≤ j) && ((l.records.getD (j - 1) none).isSome)

/-- R37, R41: the list of SEATED joints with their pockets, in joint order. -/
def LockMonitor.seatedList (l : LockMonitor) : List (Nat × Nat) :=
  l.records.zipIdx.filterMap fun (r, i) => r.map fun k => (i + 1, k)

/-- R118, part 2: the winch mirror live, TRACKING and of the node's own J. -/
def State.winchGeometry (s : State) : Bool :=
  holdsAt (s.mirror .winch) fun p =>
    p.live && p.winchShows fun w => w.tracking == Tracking.tracking.code && w.j == s.jointCount

/-- R72, R118, part 3: every joint the winch mirror shows OPEN is SEATED in the own lock table. -/
def State.openSeated (s : State) : Bool :=
  holdsAt (s.mirror .winch) fun p => p.winchShows fun w => w.openJoints.all s.locks.seatedAt

/-- R112: the parts of thrust permission that the rotary and winch mirrors give. -/
def openSeatedIn (w : WinchPart) (r : RotaryPart) : Bool := w.openJoints.all r.seatedAt

/-- R112: thrust permission. -/
def State.permission (s : State) : Bool :=
  (s.node.state == .run)
    && holdsAt (s.mirror .winch) (fun p => p.live && p.showsRun
        && p.winchShows (fun w => w.tracking == Tracking.tracking.code))
    && holdsAt (s.mirror .rotary) (fun p => p.live && p.showsRun
        && p.rotaryShows (fun r => r.validity == 1 && r.stall == 0))
    && holdsAt (s.mirror .winch) (fun p => p.winchShows fun w =>
        holdsAt (s.mirror .rotary) fun q => q.rotaryShows fun r => openSeatedIn w r)

/-- R130: the SPIN interlock. -/
def State.spinClear (s : State) : Bool :=
  holdsAt (s.mirror .winch) fun p =>
    p.presence == .fresh && p.showsRun && p.winchShows fun w => decide (w.depth < 0)

/-- R94: the tool is above the datum. -/
def State.toolAboveDatum (s : State) : Bool :=
  if s.role = some .winch then decide (s.D < 0)
  else holdsAt (s.mirror .winch) fun p => p.presence == .fresh && p.winchShows fun w => decide (w.depth < 0)

/-- R94: the kelly is not turning. -/
def State.kellyStill (s : State) : Bool :=
  if s.role = some .rotary then s.sens.speed == 0
  else holdsAt (s.mirror .rotary) fun p => p.live && p.rotaryShows fun r => r.speed == 0

/-- R94: the interlock for TOOL_OPEN. -/
def State.toolInterlock (s : State) : Bool := s.toolAboveDatum && s.kellyStill

/-- R63, R65, R66: the rotary mirror shows no operation. -/
def State.rotaryIdle (s : State) : Bool := (s.lockMirror.map fun r => r.opKind == 0).getD false

/-- R54: the rotary mirror shows every joint FREE with lock validity KNOWN. -/
def State.releaseShown (s : State) : Bool :=
  (s.lockMirror.map fun r => r.validity == 1 && s.jointNumbers.all r.freeAt).getD false

/-! ### Power -/

/-- A quotient rounded up. -/
def ceilDiv (a b : Nat) : Nat := (a + (b - 1)) / b

/-- R100: the mode maximum of HAUL: its setpoint while TRACKING, else the creep speed. -/
def State.haulMaximum (s : State) (speed : Nat) : Nat :=
  if s.trk.state = .tracking then speed else min speed (s.node.setup.ropeSpeedMax / 10)

/-- R89: the claim of a mode taken now. -/
def State.claimOf (s : State) (m : Mode) : Claim :=
  let su := s.node.setup
  let rope := max s.sens.tension su.slackTension
  let push := max s.sens.force su.feedForce
  let twist := max s.sens.torque.natAbs su.seatTorque
  match m with
  | .hold => Claim.none
  | .haul v => { cls := .move, kw := max 5 (ceilDiv (s.haulMaximum v * rope) 1000) }
  | .pay v => { cls := .move, kw := max 5 (ceilDiv (v * rope) 1000) }
  | .float _ => { cls := .guard, kw := su.floatClaim }
  | .feed v _ => { cls := .move, kw := max 5 (ceilDiv (v.natAbs * push) 1000) }
  | .pull v _ => { cls := .move, kw := max 5 (ceilDiv (v * push) 1000) }
  | .thrust f => { cls := .work, kw := ceilDiv (f * su.crowdSpeedMax) 1000 }
  | .turn v => { cls := .move, kw := max 5 (ceilDiv (v.natAbs * twist) 955) }
  | .lock => { cls := .move, kw := 10 }
  | .release => { cls := .move, kw := 10 }
  | .bore v q => { cls := .work, kw := ceilDiv (q * v) 955 }
  | .spin _ => { cls := .move, kw := max 5 (ceilDiv (su.spinSpeed * twist) 955) }

end Sys2Proof.Machine
end

