-- ==== Sys2Proof/Machine/Sharing.lean ====
section
/-! DEFINITION. The Share Arbiter (chapter 7): what is counted (R136), capacity (R138), the grants (R139),
the own grant (R141) and the guard watch (R144 to R146). -/

namespace Sys2Proof.Machine

/-- R136: the counted entries. -/
def counted (ps : List Peer) : List Peer := ps.filter Peer.live

/-- R134: the claim of an entry, as its snapshot carries it; class none counts as 0 kW. -/
def Peer.claim (p : Peer) : Claim :=
  let c := ShareClass.ofCode p.snap.cls
  { cls := c, kw := if c = .noClass then 0 else p.snap.kw }

/-- R139: the figures of the counted claims of a class. -/
def classFigures (c : ShareClass) (ps : List Peer) : List Nat :=
  ((counted ps).filter fun p => p.claim.cls == c).map fun p => p.claim.kw

/-- R139: the grant of a figure in a class with sum S and remaining capacity Rc. -/
def shareOf (rc sum figure : Nat) : Nat := if sum ≤ rc then figure else rc * figure / sum

/-- R139: the remaining capacity after a class step. -/
def afterClass (rc : Nat) (figures : List Nat) : Nat :=
  rc - (figures.map (shareOf rc figures.sum)).sum

/-- R139: the remaining capacity before the step of a class. -/
def capacityFor (cap : Nat) (ps : List Peer) : ShareClass → Nat
  | .noClass => 0
  | .guard => cap
  | .work => afterClass cap (classFigures .guard ps)
  | .move => afterClass (afterClass cap (classFigures .guard ps)) (classFigures .work ps)

/-- R139: the grant of a claim counted among the entries. -/
def grantOf (cap : Nat) (ps : List Peer) (c : Claim) : Nat :=
  match c.cls with
  | .noClass => 0
  | cls => shareOf (capacityFor cap ps cls) (classFigures cls ps).sum c.kw

/-- R138: the capacity source: the lowest-numbered FRESH or AGED PACK entry. -/
def packEntry (ps : List Peer) : Option Peer := (counted ps).find? fun p => p.role == .pack

/-- R138: the capacity figure of a PACK entry. -/
def Peer.capacity (p : Peer) : Nat :=
  match p.snap.part with
  | .pack c => c
  | _ => 0

/-- R138: the capacity in use over a Peer Table with a fallback figure. -/
def capacityIn (fallback : Nat) (ps : List Peer) : Nat :=
  match packEntry ps with
  | some p => p.capacity
  | none => fallback

/-- R141: the own grant over a Peer Table. -/
def ownGrant (own cap : Nat) (ps : List Peer) : Nat :=
  match (counted ps).find? fun p => p.station == own with
  | some p => grantOf cap ps p.claim
  | none => 0

/-- R144: the guard condition. -/
def ShareArbiter.guardShort (a : ShareArbiter) : Bool :=
  a.ownClaim.cls == .guard && decide (a.grant < a.ownClaim.kw)

/-- R145, R146: the guard watch judged. -/
def State.judgeGuard (s : State) : State :=
  let short := s.share.guardShort
  if short && !s.share.starved then
    (s.withShare { s.share with starved := true }).setFault .guardStarved |>.signal
  else if !short && s.share.starved then
    (s.withShare { s.share with starved := false }).clearFault .guardStarved |>.signal
  else s

/-- R141, R142: a recomputation; the own published claim is read first (R135). The fallback is the
committed CAP_FALLBACK, or 200 before the commit (R138). -/
def State.recompute (s : State) : State :=
  let cap := capacityIn s.node.setup.capFallback s.peers
  let grant := if s.share.ownClaim.cls = .noClass then 0 else ownGrant s.station cap s.peers
  (s.withShare { s.share with
    capacity := cap, source := (packEntry s.peers).map (·.station), grant := grant }).judgeGuard

end Sys2Proof.Machine
end

