-- ==== Sys2Proof/Machine/Publish.lean ====
section
/-! DEFINITION. The Publication Assembler (R158 to R162, R198): whether the node publishes, its declared
period, the contents of a PUBLISH, and the one frame that an event's signals build (R160). -/

namespace Sys2Proof.Machine

/-- R155, R158, R160: whether the node publishes: not in LISTEN, not with DUPLICATE_STATION, and in FAULT
for STRAP_INVALID only with a valid station strap and line-speed strap. -/
def State.canPublish (s : State) : Bool :=
  s.node.state != .listen && !s.silenced
    && !(s.node.faults.strapInvalid && (s.node.straps.station == 0 || s.node.straps.baud == 3))

/-- R159: the declared period. -/
def State.declaredPeriod (s : State) : Nat := if s.node.state = .parked then 1000 else s.node.setup.pubPeriod

/-- R134: the share claim published: none, 0 kW in FAULT. -/
def State.publishedClaim (s : State) : Claim := if s.node.state = .fault then Claim.none else s.drv.claim

/-- R161: the role code published; OTHER with an invalid role strap. -/
def State.publishedRole (s : State) : Role := (s.role).getD .other

/-- R161, R198: the common part. -/
def State.commonPart (s : State) : List Byte :=
  packed s.publishedRole.code s.node.state.code
    ++ packed s.drv.state.code s.drv.modeCode
    ++ natBytes 2 s.node.faults.code
    ++ packed s.publishedClaim.cls.code s.drv.tool.code
    ++ uItem 2 s.publishedClaim.kw
    ++ uItem 2 s.declaredPeriod
    ++ packed s.node.cause.code s.node.prior.code
    ++ code1 s.line.errRun
    ++ code1 s.line.lastError.code

/-- R198: the stack from the bottom, six places of four bits. -/
def stackBytes (bottomUp : List Nat) : List Byte :=
  packed (bottomUp.getD 0 0) (bottomUp.getD 1 0) ++ packed (bottomUp.getD 2 0) (bottomUp.getD 3 0)
    ++ packed (bottomUp.getD 4 0) (bottomUp.getD 5 0)

/-- R162, R198: the winch role part. -/
def State.winchPart (s : State) : List Byte :=
  let t := s.trk
  sItem 3 s.sens.payout ++ sItem 3 s.D ++ sItem 3 s.E
    ++ packed t.state.code s.drv.slack.code
    ++ sItem 2 t.residue
    ++ packed s.jointCount t.stack.length
    ++ [1, 2, 3, 4, 5].flatMap (fun j => uItem 2 (t.joint j).ext)
    ++ stackBytes t.stack.reverse
    ++ uItem 2 s.sens.tension
    ++ sItem 2 s.sens.speed
    ++ code1 t.event.kind.code ++ sItem 3 t.event.amount ++ code1 t.event.seq

/-- R114, R162, R198: the crowd role part. -/
def State.crowdPart (s : State) : List Byte :=
  sItem 2 s.sens.stroke ++ uItem 2 s.sens.force ++ sItem 2 s.sens.speed ++ flag1 s.drv.withheld

/-- R29: the angle reading modulo 3600. -/
def State.angleShown (s : State) : Nat := (s.sens.angle % 3600).toNat

/-- R198: a lock record as carried: 0 for FREE, pocket + 1 for SEATED. -/
def lockCode : Option Nat → Nat
  | none => 0
  | some k => k + 1

/-- R46: operation kind and phase, kind NONE without a record. -/
def State.opCodes (s : State) : Nat × Nat :=
  match s.op with
  | some o => (o.spec.code, o.phase.code)
  | none => (0, 0)

/-- R38, R133, R162, R198: the rotary role part. -/
def State.rotaryPart (s : State) : List Byte :=
  let l := s.locks
  uItem 2 s.angleShown ++ sItem 2 s.sens.speed ++ sItem 2 s.sens.torque
    ++ packed (if l.known then 1 else 0) l.dir.code
    ++ code1 s.jointCount
    ++ [0, 1, 2, 3, 4].flatMap (fun i => code1 (lockCode (l.records.getD i none)))
    ++ code1 l.event.kind.code ++ uItem 2 l.event.travel ++ code1 l.event.seq
    ++ packed s.drv.attempts (if s.drv.stallFlag then 1 else 0)
    ++ packed s.opCodes.1 s.opCodes.2

/-- R158, R162: the role part by role. -/
def State.ownPart (s : State) : List Byte :=
  match s.role with
  | some .winch => s.winchPart
  | some .crowd => s.crowdPart
  | some .rotary => s.rotaryPart
  | _ => []

/-- R160: the PUBLISH of the state as it stands. -/
def State.publishFrame (s : State) : TxFrame :=
  { kind := .publish, payload := s.commonPart ++ s.ownPart, owner := .publication (s.pub.builds + 1),
    withdrawn := false }

/-- R158, R160: a frame is built. -/
def State.buildPublish (s : State) : State :=
  (s.withPub { s.pub with builds := s.pub.builds + 1 }).offer s.publishFrame

/-- R160: once an event has been taken whole, its signals build one frame; while the node cannot publish
they are not acted on. -/
def State.finish (s : State) : State :=
  if s.pub.signal then
    let quiet := s.withPub { s.pub with signal := false }
    if s.canPublish then quiet.buildPublish else quiet
  else s

/-- R159: the periodic timer started with the declared period. -/
def State.startPeriodic (s : State) : State := s.withPub { s.pub with timer := Timer.ms s.declaredPeriod }

end Sys2Proof.Machine
end

