-- ==== Sys2Proof/Machine/Axis.lean ====
section
/-! DEFINITION. What the Axis Drive and the Operation Controller do to each other: the drive goes to HOLD
(R82, R85 to R87) or takes a mode (R81), an operation ends (R57) or hears of the end of a mode (R62), a mode
ends by itself (R83), a sub-request is queued (R50), and a mode's entry actions (R78). -/

namespace Sys2Proof.Machine

/-! ### The drive record -/

/-- R82, R83, R85, R86, R87: mode HOLD, no pending mode, no claim, no source; from ACTIVE or RELEASING the
drive enters SETTING and the set timer starts with BRAKE_SET; a set in progress goes on. -/
def Drive.toHold (brakeSet : Nat) (d : Drive) : Drive :=
  let held := { d with mode := .hold, pending := none, claim := Claim.none, source := none }
  match d.state with
  | .held => held
  | .setting => held
  | .releasing => { held with state := .setting, timer := Timer.ms brakeSet }
  | .active => { held with state := .setting, timer := Timer.ms brakeSet }

/-- R119: taking BORE sets the attempt count to 0 and the recovery phase to NONE; taking any mode ends the
old mode's watches. -/
def Drive.renew (m : Mode) (d : Drive) : Drive :=
  let d := { d with stall := .clear, stallTimer := none, recovery := .boring, spin := Spin.unused }
  match m with
  | .bore _ _ => { d with attempts := 0 }
  | _ => d

/-- R81, R89: a mode other than HOLD taken, by the drive state. -/
def Drive.takeMode (brakeRelease : Nat) (m : Mode) (c : Claim) (src : Source) (d : Drive) : Drive :=
  let d := { (d.renew m) with claim := c, source := some src }
  match d.state with
  | .held => { d with state := .releasing, mode := m, timer := Timer.ms brakeRelease }
  | .releasing => { d with mode := m }
  | .active => { d with mode := m }
  | .setting => { d with pending := some m }

/-- R82 and the rules that hold the axis: the drive goes to HOLD. -/
def State.holdDrive (s : State) : State := s.setDrv (s.drv.toHold s.node.setup.brakeSet)

/-- R113: thrust is withheld while it could be exerted and permission does not hold. -/
def State.judgeWithheld (s : State) : State :=
  s.setDrv { s.drv with withheld := s.drv.thrusting && !s.permission }

/-- R81, R113: the drive takes a mode other than HOLD; a THRUST is judged for permission as it is taken. -/
def State.driveTakes (m : Mode) (src : Source) (s : State) : State :=
  (s.setDrv (s.drv.takeMode s.node.setup.brakeRelease m (s.claimOf m) src)).judgeWithheld

/-- R77: the request-table entry that is the source of the mode. -/
def Drive.sourceEntry (d : Drive) : Option Nat :=
  match d.source with
  | some (.request id) => some id
  | _ => none

/-- R82: a HOLD request waits for the set to complete. -/
def Drive.holdsForRequest (d : Drive) : Bool := d.mode == .hold && d.pending.isNone && d.sourceEntry.isSome

/-! ### Sub-requests -/

/-- R47: the target role of a sub-request. -/
def SubReq.target : SubReq → Role
  | .release => .rotary | .lock => .rotary | .pull _ => .crowd | .feed _ _ => .crowd | .crowdHold => .crowd
  | .thrust _ => .crowd | .winchFloat _ => .winch | .winchHold => .winch | .rotaryHold => .rotary

/-- R50: the function of a sub-request. -/
def SubReq.fn : SubReq → Nat
  | .release => Fn.release | .lock => Fn.lock | .pull _ => Fn.crowdMove | .feed _ _ => Fn.crowdMove
  | .crowdHold => Fn.crowdMove | .thrust _ => Fn.crowdMove | .winchFloat _ => Fn.winchMove
  | .winchHold => Fn.winchMove | .rotaryHold => Fn.rotaryMove

/-- R47, R50: CONTINUING for HOLD, FLOAT and THRUST; the others are TURN. -/
def SubReq.continuing : SubReq → Bool
  | .crowdHold => true | .thrust _ => true | .winchFloat _ => true | .winchHold => true | .rotaryHold => true
  | _ => false

/-- R47: the HOLD sub-requests. -/
def SubReq.isHold : SubReq → Bool
  | .crowdHold => true | .winchHold => true | .rotaryHold => true
  | _ => false

/-- R53: the drive mode codes that start a CONTINUING entry. -/
def SubReq.startModes : SubReq → List Nat
  | .thrust _ => [6, 7]
  | .winchFloat _ => [3]
  | .crowdHold => [0] | .winchHold => [0] | .rotaryHold => [0]
  | _ => []

/-- R50: the start or reply deadline, in ms. -/
def SubReq.deadline : SubReq → Nat
  | .release => 3000 | .lock => 4000 | .pull _ => 30000 | .feed _ _ => 30000
  | _ => 1000

/-- R50, R197: the arguments of a sub-request, with the speeds of R50. -/
def SubReq.args (su : Setup) : SubReq → List Byte
  | .release => []
  | .lock => []
  | .pull s => code1 5 ++ uItem 2 su.crowdSpeedMax ++ sItem 2 s
  | .feed v s => code1 4 ++ sItem 2 v ++ sItem 2 s
  | .crowdHold => code1 0
  | .thrust f => code1 6 ++ uItem 2 f
  | .winchFloat t => code1 3 ++ uItem 2 t
  | .winchHold => code1 0
  | .rotaryHold => code1 0

/-- R57: the HOLD of a role. -/
def holdFor : Role → SubReq
  | .winch => .winchHold
  | .rotary => .rotaryHold
  | _ => .crowdHold

/-- R50, R184: a REQUEST is queued with the next tag. -/
def State.queueRequest (owner : Producer) (what : SubReq) (s : State) : State :=
  (s.offer (requestFrame owner what.fn s.req.tagCtr (what.args s.node.setup))).takeTag

/-- R57, R61: a HOLD that no list holds. -/
def State.queueWindDown (r : Role) (s : State) : State := s.queueRequest .windDown (holdFor r)

/-- R50: the entry of a sub-request when its REQUEST is queued. -/
def newSub (what : SubReq) (tag : Nat) : SubEntry :=
  { what := what, tag := tag, sent := false, claimant := none, claim := .unclaimed, reply := none,
    startStatus := if what.continuing then .waiting else .notNeeded, sendBound := Timer.ms 500,
    sendExpired := false, slow := none, deadline := none }

/-- R50: a sub-request is queued and its entry added. -/
def State.queueSub (what : SubReq) (s : State) : State :=
  match s.op with
  | none => s
  | some o =>
    (s.withOp (some { o with subs := o.subs ++ [newSub what s.req.tagCtr] })).queueRequest
      (.subRequest s.req.tagCtr what.target) what

/-- R47: still acting: sent, POSITIVE, and no REPLY has finished it (finished entries have left the list). -/
def SubEntry.stillActing (e : SubEntry) : Bool := e.sent && e.claim == .positive

/-! ### The end of an operation -/

/-- R46: the Operation Controller of a rotary node signals its record's creation, phases and removal. -/
def State.signalOp (s : State) : State := s.signalIf (s.role == some .rotary)

/-- R57, steps 2, 3 and 5: wind-down HOLDs for the still-acting entries, unsent REQUESTs withdrawn (R61),
the record removed; step 4, the originating reply, when there is one. -/
def State.closeOp (o : OpRecord) (windDown : Bool) (answer : Option (Result × Reason)) (s : State) : State :=
  let acting := if windDown then o.subs.filter SubEntry.stillActing else []
  let s := acting.foldl (fun s e => s.queueWindDown e.what.target) s
  let s := s.withdraw Producer.isSubRequest
  let s := match answer with
    | some (res, why) => s.replyTo o.entry res why
    | none => s
  (s.withOp none).signalOp

/-- R84: HOLD given to the own drive by the Operation Controller. -/
def State.giveHold (s : State) : State :=
  let s := s.holdDrive
  s.withDrv { s.drv with source := some .operation }

/-- R57: an operation ends with a result and reason: own HOLD, wind-down, reply, removal. -/
def State.endOp (res : Result) (why : Reason) (s : State) : State :=
  match s.op with
  | none => s
  | some o => s.giveHold.closeOp o true (some (res, why))

/-- R58: an operation ends ABORTED on a peer's ABORTED reply: own HOLD, no wind-down. -/
def State.abortOp (s : State) : State :=
  match s.op with
  | none => s
  | some o => s.giveHold.closeOp o false (some (.aborted, .noReason))

/-- R58: an operation ends ABORTED by a tracker fault: the own drive is left to the stop line. -/
def State.faultOp (s : State) : State :=
  match s.op with
  | none => s
  | some o => s.closeOp o false (some (.aborted, .noReason))

/-- R58: an operation ends ABORTED by a HALT or the stop line: the emptying of the request table replies
it, and the own drive acts by R85 or R86. -/
def State.stopOp (s : State) : State :=
  match s.op with
  | none => s
  | some o => s.closeOp o false none

/-- R59, R60: an operation ends without own HOLD: superseded, or at FAULT entry. -/
def State.displaceOp (res : Result) (why : Reason) (s : State) : State :=
  match s.op with
  | none => s
  | some o => s.closeOp o true (some (res, why))

/-! ### A mode ends by itself -/

/-- R83: the mode ends and the drive holds; a direct request is replied, or the Operation Controller hears
the result when `reported` (R62): it ends with it. -/
def State.endMode (res : Result) (why : Reason) (reported : Bool := true) (content : List Byte := [])
    (s : State) : State :=
  let src := s.drv.source
  let s := s.holdDrive
  match src with
  | some (.request id) => s.replyTo id res why content
  | some .operation => if reported then s.endOp res why else s
  | none => s

/-! ### Phases -/

/-- R46: an operation's phase changes. -/
def State.setPhase (p : Phase) (s : State) : State :=
  match s.op with
  | none => s
  | some o => (s.withOp (some { o with phase := p })).signalOp

/-- R66, R68: the extension of the target joint in the own picture. -/
def State.targetExt (s : State) (j : Nat) : Nat := (s.trk.joint j).ext

/-- R68: PULLING is entered when the own drive is ACTIVE in FLOAT: the pull to the stroke target, or
STROKE_END. -/
def State.enterPulling (s : State) : State :=
  match s.op with
  | none => s
  | some o =>
    match o.spec, o.phase with
    | .extend j _ x, .tensioning =>
      let pull : Int := x - s.targetExt j
      let target := s.strokeInUse - pull
      let s := s.setPhase .pulling
      if target < s.node.setup.strokeMin then s.endOp .failed .strokeEnd else s.queueSub (.pull target)
    | _, _ => s

/-! ### Running checks -/

/-- R99: the reason of a tracker fault. -/
def slipReason : FaultKind → Reason
  | .overExtension => .overExtension
  | _ => .lockSlip

/-- R99: the reason with which a PAY ends by a loss of tracking: the fault by which tracking left TRACKING,
else PEER_LOST. -/
def State.lossReason (s : State) : Reason :=
  match s.trk.leftBy with
  | some k => slipReason k
  | none => .peerLost

/-- R98, R99: the checks of an ACTIVE PAY; the room is judged after a rope event, a change of the lock
mirror or at entry. -/
def State.checkPay (judgeRoom : Bool) (s : State) : State :=
  match s.drv.mode, s.drv.state with
  | .pay _, .active =>
    if s.trk.state ≠ .tracking then s.endMode .failed s.lossReason false
    else if s.D ≥ s.node.setup.maxDepth then s.endMode .failed .depthLimit
    else if judgeRoom && s.room == 0 then s.endMode .failed .extensionEnd
    else s
  | _, _ => s

/-- R101: an ACTIVE HAUL ends at kelly home. -/
def State.checkHome (s : State) : State :=
  match s.drv.mode, s.drv.state with
  | .haul _, .active => if s.sens.home then s.endMode .done .home else s
  | _, _ => s

/-- R101: an ACTIVE HAUL ends on a SEATED top joint. -/
def State.checkTop (s : State) : State :=
  match s.drv.mode, s.drv.state with
  | .haul _, .active => if s.topSeated then s.endMode .failed .topSeated else s
  | _, _ => s

/-- R107: the stroke limit in a direction, and whether the stroke has reached it. -/
def State.strokeLimitReached (s : State) (down : Bool) : Bool :=
  if down then decide (s.sens.stroke ≥ s.node.setup.strokeMax) else decide (s.sens.stroke ≤ s.node.setup.strokeMin)

/-- R110: the stroke is at or past a target in a direction. -/
def State.targetReached (s : State) (down : Bool) (target : Option Int) : Bool :=
  match target with
  | none => false
  | some t => if down then decide (s.sens.stroke ≥ t) else decide (s.sens.stroke ≤ t)

/-- R110: goal and limit of a FEED or PULL. -/
def State.judgeStroke (down : Bool) (target : Option Int) (s : State) : State :=
  if s.targetReached down target then s.endMode .done .noReason
  else if s.strokeLimitReached down then s.endMode .failed .strokeEnd
  else s

/-- R107, R110, R111: the checks of an ACTIVE crowd mode. -/
def State.checkStroke (s : State) : State :=
  match s.drv.mode, s.drv.state with
  | .feed v target, .active => s.judgeStroke (decide (0 < v)) target
  | .pull _ target, .active => s.judgeStroke false target
  | .thrust _, .active => if s.strokeLimitReached true then s.endMode .failed .strokeEnd else s
  | _, _ => s

/-- R43, R44: an ACTIVE RELEASE ends when reverse travel reaches RELEASE_ANGLE + 50. -/
def State.checkRelease (s : State) : State :=
  match s.drv.mode, s.drv.state with
  | .release, .active =>
    if s.locks.rev ≥ s.node.setup.releaseAngle + 50 then s.endMode .done .noReason else s
  | _, _ => s

/-- R120: the torque limit in force in BORE, by recovery phase. -/
def boreTorque (seat limit : Nat) : Recovery → Nat
  | .restarting => min (2 * seat) limit
  | _ => limit

/-- R120, R132: the torque limit in force in BORE and SPIN. -/
def State.stallTorque (s : State) : Nat :=
  match s.drv.mode with
  | .bore _ q => boreTorque s.node.setup.seatTorque q s.drv.recovery
  | _ => s.node.setup.torqueMax

/-- R121, R131: the current motion is reverse: the reverse phase of a recovery, or a REVERSE half. -/
def Drive.reversing (d : Drive) : Bool :=
  match d.mode with
  | .bore _ _ => d.recovery == .reversing
  | .spin _ => d.spin.reverseHalf
  | _ => false

/-- R121: the stall condition. -/
def State.stallCondition (s : State) : Bool :=
  let v := if s.drv.reversing then -s.sens.speed else s.sens.speed
  decide (s.sens.torque.natAbs ≥ s.stallTorque) && decide (v < s.node.setup.stallSpeed)

/-- R121: the stall watch judged after an event. -/
def State.judgeStall (s : State) : State :=
  if !s.drv.stallJudged then s
  else if s.stallCondition then
    if s.drv.stall = .clear then
      s.setDrv { s.drv with stall := .timing, stallTimer := Timer.ms s.node.setup.stallTime }
    else s
  else s.setDrv { s.drv with stall := .clear, stallTimer := none }

/-- R121: a change of recovery phase stops the watch and judges the condition afresh. -/
def State.rejudgeStall (s : State) : State :=
  (s.setDrv { s.drv with stall := .clear, stallTimer := none }).judgeStall

/-! ### Entry to ACTIVE -/

/-- R40: entry to ACTIVE in LOCK restarts the seat watch of a shaft turning forward; else the turn waits
for a watch of its own. -/
def State.enterLock (s : State) : State :=
  let l := s.locks
  if l.dir = .forward then s.withLocks { l with watch := true, fwd := 0, watchOfTurn := true }
  else s.withLocks { l with watchOfTurn := false }

/-- R131: entry to ACTIVE in SPIN. -/
def State.enterSpin (s : State) : State := (s.setDrv { s.drv with spin := Spin.unused }).judgeStall

/-- R96: the checks of HAUL at entry. With kelly home active and the top joint SEATED at once it ends at home (DESIGN
CHOICE, log 37). -/
def State.enterHaul (s : State) : State := s.checkHome.checkTop

/-- R78: the entry actions of the mode in which the drive has entered ACTIVE. -/
def State.enterActive (s : State) : State :=
  match s.drv.mode with
  | .hold => s
  | .haul _ => s.enterHaul
  | .pay _ => s.checkPay true
  | .float _ => s.enterPulling
  | .feed _ _ => s.checkStroke
  | .pull _ _ => s.checkStroke
  | .thrust _ => s.checkStroke
  | .turn _ => s
  | .lock => s.enterLock
  | .release => s.checkRelease
  | .bore _ _ => s.judgeStall
  | .spin _ => s.enterSpin

/-- R81: entry actions follow a mode taken in ACTIVE. -/
def State.enterIfActive (s : State) : State := if s.drv.state = .active then s.enterActive else s

/-! ### Modes taken -/

/-- The interlock of a mode, by the role chapters: none when it holds, else the reason of the refusal
(R97, R100, R108, R109, R111, R118, R130). -/
def State.interlock (s : State) : Mode → Option Reason
  | .pay _ =>
    if s.trk.state ≠ .tracking then some .noReason
    else if s.D ≥ s.node.setup.maxDepth then some .depthLimit
    else if s.room = 0 then some .extensionEnd
    else none
  | .haul _ => if s.topSeated then some .topSeated else none
  | .feed v _ => if s.strokeLimitReached (decide (0 < v)) then some .strokeEnd else none
  | .pull _ _ => if s.strokeLimitReached false then some .strokeEnd else none
  | .thrust _ => if s.strokeLimitReached true then some .strokeEnd else none
  | .bore _ _ =>
    if !(s.locks.known && s.winchGeometry) then some .geometryStale
    else if !s.openSeated then some .partialLock
    else none
  | .spin _ => if s.spinClear then none else some .toolNotClear
  | _ => none

/-- R49: the originating request is ACTING while the operation has given a mode other than HOLD. -/
def State.originActs (s : State) : State :=
  match s.op with
  | some o => s.setEntry o.entry .acting
  | none => s

/-- R84: the Operation Controller gives the own drive a mode. A failing interlock ends it at once and is
reported, but for the tracking interlock of PAY (R97), where the drive holds and the operation goes by the
tracking state (R62). A BORE that its interlock ends so keeps the attempt count, against the 0 of a BORE taken (R119;
DESIGN CHOICE, log 44). -/
def State.giveMode (m : Mode) (s : State) : State :=
  match s.interlock m with
  | some .noReason => s.giveHold
  | some why => s.giveHold.endOp .failed why
  | none => ((s.originActs).driveTakes m .operation).enterIfActive

/-- R80, step 2: the direct motion request that is ACTING is replied SUPERSEDED. -/
def State.supersedeDirect (s : State) : State :=
  match s.drv.sourceEntry with
  | some id => s.replyTo id .superseded
  | none => s

/-- R80, R82: a HOLD request accepted: DONE at once when the drive is HELD, else when the set completes. -/
def State.acceptHold (e : ReqEntry) (s : State) : State :=
  if s.drv.state = .held then s.holdDrive.reply e .done
  else
    let s := (s.setEntry e.id .acting).holdDrive
    s.withDrv { s.drv with source := some (.request e.id) }

/-- R80: a direct motion request accepted. -/
def State.accept (e : ReqEntry) (m : Mode) (s : State) : State :=
  let s := (s.displaceOp .superseded .noReason).supersedeDirect
  match m with
  | .hold => s.acceptHold e
  | m => ((s.setEntry e.id .acting).driveTakes m (.request e.id)).enterIfActive

/-- R79: a direct motion request in RUN: its interlock, then its acceptance. -/
def State.takeDirect (e : ReqEntry) (m : Mode) (s : State) : State :=
  match s.interlock m with
  | some why => s.reply e .refusedInterlock why
  | none => s.accept e m

end Sys2Proof.Machine
end

