-- ==== Sys2Proof/Machine/Operands.lean ====
section
/-! DEFINITION. Operand forms: the arguments of every function that carries some, read from the bytes of a
REQUEST (R197) with their ranges (section 4.2; R20, R23, R63, R65, R72, R76, R156), and the classes of
functions (R164, R171). None stands for BAD_ARGS: arguments that are missing, extra or out of range by R79 for
a motion request and R48 for an operation request; extra ones of ASSERT_PICTURE and SET_DATUM are the model's
choice (log 30). -/

namespace Sys2Proof.Machine

/-! ### Direct motion requests (section 4.2) -/

/-- R197: an optional stroke target; bytes 0xFF for an absent one. -/
def readTarget (su : Setup) (bs : List Byte) : Option (Option Int) :=
  if bs = absentItem 2 then some none
  else
    let t := readS bs
    if (su.strokeMin : Int) ≤ t ∧ t ≤ su.strokeMax then some (some t) else none

/-- WINCH_MOVE: HOLD, HAUL, PAY or FLOAT. -/
def winchMode (su : Setup) (a : List Byte) : Option Mode :=
  let v := fieldU 1 2 a
  match fieldU 0 1 a, a.length with
  | 0, 1 => some .hold
  | 1, 3 => if 1 ≤ v ∧ v ≤ su.ropeSpeedMax then some (.haul v) else none
  | 2, 3 => if 1 ≤ v ∧ v ≤ su.ropeSpeedMax then some (.pay v) else none
  | 3, 3 => if 10 ≤ v ∧ v ≤ 400 then some (.float v) else none
  | _, _ => none

/-- CROWD_MOVE: HOLD, FEED, PULL or THRUST. -/
def crowdMode (su : Setup) (a : List Byte) : Option Mode :=
  let v := fieldU 1 2 a
  let sv := fieldS 1 2 a
  match fieldU 0 1 a, a.length with
  | 0, 1 => some .hold
  | 4, 5 =>
    match readTarget su (field 3 2 a) with
    | some target => if sv ≠ 0 ∧ sv.natAbs ≤ su.crowdSpeedMax then some (.feed sv target) else none
    | none => none
  | 5, 5 =>
    match readTarget su (field 3 2 a) with
    | some target => if 1 ≤ v ∧ v ≤ su.crowdSpeedMax then some (.pull v target) else none
    | none => none
  | 6, 3 => if 1 ≤ v ∧ v ≤ su.thrustMax then some (.thrust v) else none
  | _, _ => none

/-- ROTARY_MOVE: HOLD, TURN, BORE or SPIN. -/
def rotaryMode (su : Setup) (a : List Byte) : Option Mode :=
  let v := fieldU 1 2 a
  let sv := fieldS 1 2 a
  let q := fieldU 3 2 a
  let n := fieldU 1 1 a
  match fieldU 0 1 a, a.length with
  | 0, 1 => some .hold
  | 8, 3 => if sv ≠ 0 ∧ sv.natAbs ≤ 500 then some (.turn sv) else none
  | 11, 5 => if 1 ≤ v ∧ v ≤ 500 ∧ 1 ≤ q ∧ q ≤ su.torqueMax then some (.bore v q) else none
  | 12, 2 => if 1 ≤ n ∧ n ≤ 10 then some (.spin n) else none
  | _, _ => none

/-- R40, R43, R75, R93, R177: no arguments. -/
def noArgs (a : List Byte) : Bool := a.isEmpty

/-- R157, R206, R207, R209: the station argument alone. -/
def stationArgOnly (a : List Byte) : Bool := a.length == 1

/-! ### Operation requests -/

/-- R63, R65, R23: a depth, −50000..150000 mm; a required item of bytes 0xFF is −1 (log 12). Extra bytes are
BAD_ARGS, by R48 for an operation request, by the model's choice for SET_DATUM (DESIGN CHOICE, log 30). -/
def readDepth (bs : List Byte) : Option Int :=
  let d := readS bs
  if bs.length = 3 ∧ -50000 ≤ d ∧ d ≤ 150000 then some d else none

/-- R72: target depth, thrust, torque limit and speed. -/
def readBore (su : Setup) (a : List Byte) : Option OpSpec :=
  let f := fieldU 3 2 a
  let q := fieldU 5 2 a
  let v := fieldU 7 2 a
  match readDepth (field 0 3 a) with
  | some d =>
    if a.length = 9 ∧ 1 ≤ f ∧ f ≤ su.thrustMax ∧ 1 ≤ q ∧ q ≤ su.torqueMax ∧ 1 ≤ v ∧ v ≤ 500 then
      some (.bore d f q v)
    else none
  | none => none

/-- R76: the cycle count, 1..10. -/
def readCycles (a : List Byte) : Option Nat :=
  let n := fieldU 0 1 a
  if a.length = 1 ∧ 1 ≤ n ∧ n ≤ 10 then some n else none

/-! ### Kelly Tracker requests -/

/-- R20, R197: the entries of an ASSERT_PICTURE, a joint number and an extension each. -/
def readPairs : Nat → List Byte → List (Nat × Nat)
  | 0, _ => []
  | n + 1, bs => (fieldU 0 1 bs, fieldU 1 2 bs) :: readPairs n (bs.drop 3)

/-- R20: no joint is listed twice. -/
def distinctJoints (es : List (Nat × Nat)) : Bool := (es.map (·.1)).Nodup

/-- R20: the list of an ASSERT_PICTURE, checked against J and the slides. Bytes after the last listed entry are
BAD_ARGS by the model's choice (DESIGN CHOICE, log 30). -/
def State.readPicture (s : State) (a : List Byte) : Option (List (Nat × Nat)) :=
  let n := fieldU 0 1 a
  let es := readPairs n (a.drop 1)
  if 1 ≤ a.length ∧ a.length = 1 + 3 * n ∧ n ≤ s.jointCount
      ∧ es.all (fun e => decide (1 ≤ e.1 ∧ e.1 ≤ s.jointCount ∧ 1 ≤ e.2 ∧ e.2 ≤ (s.geom e.1).slide))
      ∧ distinctJoints es then some es
  else none

/-- Pairs of a joint number and a pocket number. -/
def seatedPairs : Nat → List Byte → List (Nat × Nat)
  | 0, _ => []
  | k + 1, bs => if bs.length < 2 then [] else (fieldU 0 1 bs, fieldU 1 1 bs) :: seatedPairs k (bs.drop 2)

/-- R41: the seated list of a LOCK REPLY's content: joint and pocket of each. Of a content that ends before the pairs that
its count gives, the whole pairs that stand there are the list (DESIGN CHOICE, log 48). -/
def readSeated (content : List Byte) : List (Nat × Nat) := seatedPairs (fieldU 0 1 content) (content.drop 1)

/-! ### Functions (R164, R171) -/

/-- R164: the station-addressed functions. -/
def isStationAddressed (fn : Nat) : Bool := 0x10 ≤ fn && fn ≤ 0x14

/-- R164: the queries. -/
def isQuery (fn : Nat) : Bool :=
  fn == Fn.queryPeer || fn == Fn.queryNode || fn == Fn.queryKelly || fn == Fn.queryCrowd || fn == Fn.queryLocks

/-- R93, R164: the TOOL functions. -/
def isTool (fn : Nat) : Bool := fn == Fn.toolOpen || fn == Fn.toolClose || fn == Fn.toolHold

/-- R166: the base of the role window. -/
def windowBase : Role → Nat
  | .winch => 0x20 | .crowd => 0x30 | .rotary => 0x40
  | _ => 0x100

/-- R164: the functions of a role window or of the station-addressed codes, with the row that each is. -/
def functionRow (fn : Nat) : Option Instr :=
  match fn with
  | 0x10 => some .park | 0x11 => some .resetNode | 0x12 => some .clearFault | 0x13 => some .queryPeer
  | 0x14 => some .queryNode | 0x20 => some .winchMove | 0x21 => some .lower | 0x22 => some .lift
  | 0x23 => some .extend | 0x24 => some .setDatum | 0x25 => some .assertPicture | 0x2F => some .queryKelly
  | 0x30 => some .crowdMove | 0x3F => some .queryCrowd | 0x40 => some .rotaryMove | 0x41 => some .lock
  | 0x42 => some .release | 0x43 => some .bore | 0x44 => some .boreStop | 0x45 => some .spinOff
  | 0x4F => some .queryLocks | _ => none

/-- R167: the rows of the TOOL functions. -/
def toolRow (fn : Nat) : Option Instr :=
  match fn with
  | 0xC0 => some .toolOpen | 0xC1 => some .toolClose | 0xC2 => some .toolHold | _ => none

/-- R164: the qualifier of a function: QUERY for the queries, else SET. -/
def qualifierOf (fn : Nat) : Nat := if isQuery fn then qualQuery else qualSet

/-- R167: an aux window allows a qualifier. -/
def auxAllows : AuxQual → Nat → Bool
  | .off, _ => false
  | .set, q => q == qualSet
  | .query, q => q == qualQuery
  | .both, q => q == qualSet || q == qualQuery

/-- R167: an aux window matches a REQUEST. -/
def AuxWindow.matches (w : AuxWindow) (r : Request) : Bool :=
  auxAllows w.qual r.qual && (((BitVec.ofNat 8 r.fn ^^^ w.base) &&& w.mask) == 0#8)

/-- R165: how a REQUEST that is not a broadcast is owned. -/
inductive Ownership where
  | station | window | aux | notOwned
  deriving DecidableEq, Repr

/-- R165: the ownership of a REQUEST, the first step that applies. -/
def State.ownership (s : State) (r : Request) : Ownership :=
  if isStationAddressed r.fn then
    if 1 ≤ r.args.length ∧ fieldU 0 1 r.args = s.station ∧ 1 ≤ s.station ∧ s.station ≤ 15 then .station
    else .notOwned
  else
    match s.role with
    | some role =>
      if windowBase role ≤ r.fn ∧ r.fn < windowBase role + 16 then .window
      else if s.req.aux1.matches r || s.req.aux2.matches r then .aux
      else .notOwned
    | none => if s.req.aux1.matches r || s.req.aux2.matches r then .aux else .notOwned

/-- R163 to R167: the row that a REQUEST is at this node: its function, or BAD_ARGS by the Request Unit
(UNDEFINED_FUNCTION), or not this node's (UNOWNED_REQUEST). A TOOL request owned through an aux window has no
length check, as R166 gives it to role-window and station requests only (DESIGN CHOICE beside R199, log 35). -/
def State.requestRow (s : State) (r : Request) : Instr :=
  if r.qual = qualBroadcast then
    if r.fn = Fn.start then .start else if r.fn = Fn.halt then .halt else .unownedRequest
  else
    match s.ownership r with
    | .notOwned => .unownedRequest
    | .aux => if r.qual = qualSet then (toolRow r.fn).getD .undefinedFunction else .undefinedFunction
    | _ =>
      if r.qual = qualifierOf r.fn ∧ r.args.length ≤ 32 then (functionRow r.fn).getD .undefinedFunction
      else .undefinedFunction

/-- R191, R199: the row that the handling of a frame is at this node. -/
def State.rowOf (s : State) (f : RxFrame) : Instr :=
  match f.kind? with
  | none => .unknownKindDiscard
  | some .publish => .publishHandled
  | some .claim => if f.claim?.isSome then .claimHandled else .unknownKindDiscard
  | some .reply => if f.reply?.isSome then .replyHandled else .unknownKindDiscard
  | some .stop => if f.stop?.isSome then .stopHandled else .unknownKindDiscard
  | some .setup => if f.setup?.isSome then .setupHandled else .unknownKindDiscard
  | some .request =>
    match f.request? with
    | some r => s.requestRow r
    | none => .unknownKindDiscard

end Sys2Proof.Machine
end

