-- ==== Sys2Proof/Machine/Operation.lean ====
section
/-! DEFINITION. The Operation Controller (chapter 3): how a record is created (R48, R49), its sub-requests
followed (R51 to R55), its phases (R64 to R76) and what each block's events do to it (R56, R62). -/

namespace Sys2Proof.Machine

/-! ### Sub-request entries -/

/-- The entries with the tag's entry changed. -/
def OpRecord.mapSub (o : OpRecord) (tag : Nat) (f : SubEntry → SubEntry) : OpRecord :=
  { o with subs := o.subs.map fun e => if e.tag == tag then f e else e }

/-- The record's entry with a tag. -/
def State.subWith (s : State) (tag : Nat) : Option SubEntry :=
  s.op.bind fun o => o.subs.find? fun e => e.tag == tag

/-- The record with an entry changed. -/
def State.mapSub (tag : Nat) (f : SubEntry → SubEntry) (s : State) : State :=
  match s.op with
  | none => s
  | some o => s.withOp (some (o.mapSub tag f))

/-- R47: an entry leaves the list. -/
def State.dropSub (tag : Nat) (s : State) : State :=
  match s.op with
  | none => s
  | some o => s.withOp (some { o with subs := o.subs.filter fun e => e.tag != tag })

/-! ### Phases -/

/-- R69: LOCKING is entered: a change is signalled and the publication wait starts. -/
def State.enterLocking (s : State) : State :=
  match s.op with
  | none => s
  | some o =>
    ((s.withOp (some { o with pubWait := Timer.ms 1000, pubFrom := s.pub.builds + 1 })).setPhase .locking).signal

/-- R64, R65, R73, R76: PREPARE has ended; the own drive is given its mode. -/
def State.leavePrepare (s : State) : State :=
  match s.op with
  | none => s
  | some o =>
    match o.spec with
    | .lower _ => (s.setPhase .paying).giveMode (.pay s.node.setup.ropeSpeedMax)
    | .lift _ => (s.setPhase .hauling).giveMode (.haul s.node.setup.ropeSpeedMax)
    | .extend _ _ _ => s
    | .bore _ _ q v => (s.setPhase .boring).giveMode (.bore v q)
    | .spinOff n => (s.setPhase .spinning).giveMode (.spin n)

/-- R64, R73, R76: PREPARE ends when every TURN has completed and every CONTINUING entry has started or
finished. -/
def State.checkPrepare (s : State) : State :=
  match s.op with
  | none => s
  | some o =>
    if o.phase = .prepare ∧ o.subs.all (fun e => e.startStatus == .started) then s.leavePrepare else s

/-- R70, steps 2 to 4: the misalignment is fed out, or LOCKING is entered again, or the correction cannot
feed (R71). -/
def State.feedStep (s : State) : State :=
  match s.op with
  | none => s
  | some o =>
    match o.spec with
    | .extend j _ x =>
      let m : Int := x - s.targetExt j
      let t := s.strokeInUse
      let target := t - m
      let su := s.node.setup
      if m = 0 then s.enterLocking
      else if target < su.strokeMin ∨ target > su.strokeMax then
        s.endOp .failed (if o.lastMiss then .lockMiss else .partialLock)
      else
        let v : Int := su.crowdSpeedMax / 4
        s.queueSub (.feed (if target < t then -v else v) target)
    | _ => s

/-- R67, R68, R70: a TURN entry other than a LOCK has completed and left the list. -/
def State.turnDone (what : SubReq) (s : State) : State :=
  match s.op with
  | none => s
  | some o =>
    match what, o.phase with
    | .release, .unlocking => (s.setPhase .tensioning).giveMode (.float s.node.setup.floatTension)
    | .release, .correcting => s.feedStep
    | .release, _ => s.checkPrepare
    | .pull _, .pulling => s.enterLocking
    | .feed _ _, .correcting => s.enterLocking
    | _, _ => s

/-- R70: the one correction begins. -/
def State.beginCorrection (missed : Bool) (s : State) : State :=
  match s.op with
  | none => s
  | some o => (s.withOp (some { o with corr := 1, lastMiss := missed })).setPhase .correcting

/-- R70: the check after a LOCK DONE: the target at its pocket, and every joint OPEN in the own picture. -/
def State.lockCheck (s : State) (j pocket : Nat) (seated : List (Nat × Nat)) : Bool :=
  seated.contains (j, pocket)
    && (s.jointNumbers.filter fun i => (s.trk.joint i).opened).all fun i => seated.any fun p => p.1 == i

/-- R69 to R71: a LOCK replied DONE with its seated list. -/
def State.lockReplied (seated : List (Nat × Nat)) (s : State) : State :=
  match s.op with
  | none => s
  | some o =>
    match o.spec with
    | .extend j pocket _ =>
      if s.lockCheck j pocket seated then s.endOp .done .noReason
      else if o.corr = 0 then
        let s := s.beginCorrection false
        if seated.any (fun p => p.1 == j && p.2 != pocket) then s.queueSub .release else s.feedStep
      else s.endOp .failed .partialLock
    | _ => s

/-- R69 to R71: a LOCK replied FAILED, LOCK_MISS. -/
def State.lockMissed (s : State) : State :=
  match s.op with
  | none => s
  | some o => if o.corr = 0 then (s.beginCorrection true).feedStep else s.endOp .failed .lockMiss

/-! ### Claims and replies -/

/-- R51: the claimant of a POSITIVE CONTINUING entry has changed: it waits for a start again. -/
def SubEntry.restart (e : SubEntry) : SubEntry :=
  if e.what.continuing then { e with startStatus := .waiting, deadline := Timer.ms e.what.deadline } else e

/-- R51: an entry after a CLAIM of another station; kind 0 POSITIVE, 1 DEFAULT. A claim kind outside the codes of R197
changes nothing (DESIGN CHOICE, log 40). The reply status stands when the claimant changes, so the DONE of a RELEASE
taken from the claimant that is replaced still counts (DESIGN CHOICE, log 50). -/
def SubEntry.takeClaim (src kind : Nat) (e : SubEntry) : SubEntry :=
  match kind, e.claim with
  | 0, .positive =>
    if decide (src < e.claimant.getD 0) then { e.restart with claimant := some src } else e
  | 0, _ => { e with claim := .positive, claimant := some src }
  | 1, .unclaimed => { e with claim := .default, claimant := some src }
  | _, _ => e

/-- R51: the Operation Controller follows a CLAIM that names its station and the tag of an entry. -/
def State.opTakesClaim (c : ClaimFrame) (s : State) : State :=
  if c.requester = s.station then s.mapSub c.tag (SubEntry.takeClaim c.src c.kind) else s

/-- R51: the entry as it follows a REPLY of a station, or none where the REPLY is ignored. A NO_OWNER for an unclaimed
entry is ignored and not recorded (DESIGN CHOICE, log 43). -/
def SubEntry.followReply (src res : Nat) (e : SubEntry) : Option SubEntry :=
  match e.claim with
  | .positive => if e.claimant = some src then some e else none
  | .default =>
    if res ≠ Result.noOwner.code then some { e with claim := .positive, claimant := some src }
    else if e.claimant = some src then some e
    else none
  | .unclaimed =>
    if res ≠ Result.noOwner.code then some { e with claim := .positive, claimant := some src } else none

/-- R54, R55: the effect of a DONE on an entry. -/
def State.subDone (e : SubEntry) (content : List Byte) (s : State) : State :=
  match e.what with
  | .release => if s.releaseShown then (s.dropSub e.tag).turnDone .release else s
  | .lock => (s.dropSub e.tag).lockReplied (readSeated content)
  | .pull t => (s.dropSub e.tag).turnDone (.pull t)
  | .feed v t => (s.dropSub e.tag).turnDone (.feed v t)
  | .crowdHold => (s.dropSub e.tag).checkPrepare
  | .winchHold => (s.dropSub e.tag).checkPrepare
  | .rotaryHold => (s.dropSub e.tag).checkPrepare
  | .thrust _ => (s.dropSub e.tag).endOp .failed .peerRefused
  | .winchFloat _ => (s.dropSub e.tag).endOp .failed .peerRefused

/-- R55, R69: the effect of a FAILED with a reason on an entry. A LOCK of EXTEND that failed with a reason that
R69 to R71 do not name, such as OWNER_FAULT, ends the operation FAILED with it (DESIGN CHOICE, log 31). -/
def State.subFailed (e : SubEntry) (why : Reason) (s : State) : State :=
  if e.what = .lock ∧ why = .lockMiss then (s.dropSub e.tag).lockMissed
  else (s.dropSub e.tag).endOp .failed why

/-- R55: the effect of a REPLY on its entry. A REPLY carrying STROKE_END is taken as such whatever its
result (log 11). A NO_OWNER from the claimant of a POSITIVE entry is recorded and does nothing more (DESIGN CHOICE,
log 49). -/
def State.subReplied (e : SubEntry) (res : Nat) (why : Reason) (content : List Byte) (s : State) : State :=
  if why = .strokeEnd then (s.dropSub e.tag).endOp .failed .strokeEnd
  else if res = Result.done.code then s.subDone e content
  else if res = Result.aborted.code then (s.dropSub e.tag).abortOp
  else if res = Result.noOwner.code then s
  else if res = Result.failed.code then s.subFailed e why
  else (s.dropSub e.tag).endOp .failed .peerRefused

/-- R51, R55: the Operation Controller takes a REPLY that names its station and the tag of an entry. -/
def State.opTakesReply (r : ReplyFrame) (s : State) : State :=
  if r.requester = s.station then
    match (s.subWith r.tag).bind (SubEntry.followReply r.src r.result) with
    | none => s
    | some e =>
      let e := { e with reply := some (r.result, r.reason) }
      (s.mapSub r.tag fun _ => e).subReplied e r.result (Reason.ofCode r.reason) r.content
  else s

/-! ### Publications and mirrors -/

/-- R56: the required mirrors of a kind. -/
def OpSpec.required : OpSpec → List Role
  | .lower _ => [.crowd, .rotary] | .lift _ => [.crowd, .rotary] | .extend _ _ _ => [.crowd, .rotary]
  | .bore _ _ _ _ => [.winch, .crowd] | .spinOff _ => [.winch, .crowd]

/-- R152: the mirror of a role takes a publication: its serving entry is the accepted station's, or the
choice of the serving entry has moved. -/
def mirrorTaken (before after : Option Peer) (accepted : Option Nat) : Bool :=
  match after with
  | none => false
  | some p => (accepted == some p.station) || (before.map (·.station) != some p.station)

/-- R56: a required mirror is lost: it has become LOST, or a publication for it shows a state other than
RUN. -/
def mirrorLost (before after : Option Peer) (accepted : Option Nat) : Bool :=
  (holdsAt after (fun p => p.presence == .lost) && !holdsAt before (fun p => p.presence == .lost))
    || (mirrorTaken before after accepted && !holdsAt after Peer.showsRun)

/-- R74: a winch publication shows the target depth of a BORE. -/
def State.boreDepthShown (s : State) : Bool :=
  match s.op with
  | some o =>
    match o.spec with
    | .bore d _ _ _ => holdsAt (s.mirror .winch) fun p => p.winchShows fun w => decide (w.depth ≥ d)
    | _ => false
  | none => false

/-- R53: an entry is started by a publication of its claimant. -/
def SubEntry.startedBy (p : Peer) (e : SubEntry) : SubEntry :=
  if e.what.continuing && e.startStatus == .waiting && e.claim == .positive && e.claimant == some p.station
      && p.showsRun && e.what.startModes.contains p.snap.driveMode then
    { e with startStatus := .started, deadline := none }
  else e

/-- R53: the entries started by an accepted publication. -/
def State.startSubs (p : Peer) (s : State) : State :=
  match s.op with
  | none => s
  | some o => (s.withOp (some { o with subs := o.subs.map (SubEntry.startedBy p) })).checkPrepare

/-- R54: the RELEASE entry whose DONE has been taken completes when the mirror shows the release. The DONE is read from
the reply status: a NO_OWNER of the claimant taken after it overwrites it, and the entry then waits for another DONE
(DESIGN CHOICE, log 49); a DONE taken from a claimant that a lower-numbered one has since replaced stands (DESIGN
CHOICE, log 50). -/
def State.releaseWaiting (s : State) : Option SubEntry :=
  s.op.bind fun o => o.subs.find? fun e =>
    e.what == .release && (e.reply.map (·.1)) == some Result.done.code

/-- R54: the mirror condition of a RELEASE judged again. -/
def State.judgeRelease (s : State) : State :=
  match s.releaseWaiting with
  | some e => if s.releaseShown then (s.dropSub e.tag).turnDone .release else s
  | none => s

/-- R56, R74: the ends of an operation that a mirror brings; `before` is the state before the event. -/
def State.opMirrors (before : State) (accepted : Option Nat) (s : State) : State :=
  match s.op with
  | none => s
  | some o =>
    if o.spec.required.any fun r => mirrorLost (before.mirror r) (s.mirror r) accepted then
      s.endOp .failed .peerLost
    else if mirrorTaken (before.mirror .winch) (s.mirror .winch) accepted && s.boreDepthShown then
      s.endOp .done .noReason
    else s

/-- R151: what the Operation Controller makes of an entry handed on: R56, R74, then R53, then R54. A winch publication
that shows the target depth and starts the last entry of PREPARE ends the BORE DONE before R53 gives the own drive BORE
(DESIGN CHOICE, log 36). -/
def State.opHandOn (before : State) (accepted : Option Nat) (s : State) : State :=
  let s := State.opMirrors before accepted s
  let s := match accepted.bind fun n => entryAt n s.peers with
    | some p => s.startSubs p
    | none => s
  s.judgeRelease

/-- R62: the tracking state has left TRACKING while a winch-node operation runs. -/
def State.opTrackingLost (s : State) : State := s.endOp .failed .peerLost

/-- R64, R65: D against the target at a rope event, in PAYING and HAULING. -/
def State.opDepth (s : State) : State :=
  match s.op with
  | none => s
  | some o =>
    match o.spec, o.phase with
    | .lower d, .paying => if s.D ≥ d then s.endOp .done .noReason else s
    | .lift d, .hauling => if s.D ≤ d then s.endOp .done .noReason else s
    | _, _ => s

/-- R69: the n-th PUBLISH has completed: a publication wait that it satisfies stops and the LOCK is
queued. -/
def State.opPublished (n : Nat) (s : State) : State :=
  match s.op with
  | none => s
  | some o =>
    if o.phase = .locking ∧ o.pubWait.isSome ∧ o.pubFrom ≤ n then
      (s.withOp (some { o with pubWait := none })).queueSub .lock
    else s

/-- R50: the REQUEST of a sub-request has completed on the line. -/
def State.subSent (tag : Nat) (s : State) : State :=
  s.mapSub tag fun e =>
    { e with sent := true, sendBound := none, sendExpired := false, slow := s.bitTimes 1200,
             deadline := Timer.ms e.what.deadline }

/-! ### Operation requests -/

/-- R49: an operation request is accepted: the running operation and the acting request end SUPERSEDED, the
record is created, and the own drive is given HOLD. -/
def State.acceptOp (e : ReqEntry) (spec : OpSpec) (first : Phase) (s : State) : State :=
  let s := (s.displaceOp .superseded .noReason).supersedeDirect
  let s := s.withOp (some { spec := spec, requester := e.requester, tag := e.tag, entry := e.id, phase := first,
                            corr := 0, subs := [], pubWait := none, pubFrom := 0, lastMiss := false })
  ((s.setEntry e.id .waitingPeers).signalOp).giveHold

/-- R64: PREPARE of LOWER and LIFT queues a RELEASE if some joint is SEATED, then a crowd HOLD. -/
def State.prepareRope (s : State) : State :=
  let s := if s.jointNumbers.any s.seatedInMirror then s.queueSub .release else s
  s.queueSub .crowdHold

/-- R63, R64: LOWER. -/
def takeLower (e : ReqEntry) (s : State) : State :=
  match readDepth e.args with
  | none => s.reply e .badArgs
  | some d =>
    if s.trk.state = .tracking ∧ s.D < d ∧ d ≤ s.node.setup.maxDepth ∧ s.rotaryIdle then
      (s.acceptOp e (.lower d) .prepare).prepareRope
    else s.reply e .refusedInterlock

/-- R65: LIFT. -/
def takeLift (e : ReqEntry) (s : State) : State :=
  match readDepth e.args with
  | none => s.reply e .badArgs
  | some d =>
    if s.trk.state = .tracking ∧ d < s.D ∧ s.rotaryIdle then (s.acceptOp e (.lift d) .prepare).prepareRope
    else s.reply e .refusedInterlock

/-- R66: the current pocket of the top joint. A top joint for which the rotary mirror holds no record takes the
figure of a FREE one (DEDUCED, log 18). -/
def State.currentPocket (s : State) (t : Nat) : Nat :=
  match s.lockMirror.bind (·.pocketAt t) with
  | some k => k
  | none => (s.trk.joint t).ext / (s.geom t).pitch

/-- R66: the target joint and pocket of an EXTEND. -/
def State.extendTarget (s : State) : Option (Nat × Nat) :=
  match s.trk.top with
  | some t =>
    if (s.trk.joint t).ext < (s.geom t).slide then
      if s.currentPocket t + 1 < (s.geom t).pockets then some (t, s.currentPocket t + 1) else none
    else s.lowestClosed.map fun j => (j, 1)
  | none => s.lowestClosed.map fun j => (j, 1)

/-- R66, R67: EXTEND. -/
def takeExtend (e : ReqEntry) (s : State) : State :=
  if !noArgs e.args then s.reply e .badArgs
  else if s.trk.state ≠ .tracking ∨ !s.rotaryIdle then s.reply e .refusedInterlock
  else
    match s.extendTarget with
    | none => s.reply e .failed .extensionEnd
    | some (j, k) =>
      let x := k * (s.geom j).pitch
      if s.strokeInUse - ((x : Int) - s.targetExt j) < s.node.setup.strokeMin then s.reply e .failed .strokeEnd
      else (s.acceptOp e (.extend j k x) .unlocking).queueSub .release

/-- R72: the prechecks of BORE. -/
def State.borePrecheck (s : State) (depth : Int) : Bool :=
  holdsAt (s.mirror .winch) (fun p => p.presence == .fresh && p.showsRun
      && p.winchShows fun w => w.tracking == Tracking.tracking.code && w.j == s.jointCount)
    && holdsAt (s.mirror .crowd) (fun p => p.presence == .fresh && p.showsRun)
    && s.locks.known && s.openSeated
    && holdsAt (s.mirror .winch) fun p => p.winchShows fun w => decide (depth > w.depth)

/-- R72, R73: BORE. -/
def takeBore (e : ReqEntry) (s : State) : State :=
  match readBore s.node.setup e.args with
  | some (.bore d f q v) =>
    if s.borePrecheck d then
      ((s.acceptOp e (.bore d f q v) .prepare).queueSub (.winchFloat s.node.setup.floatTension)).queueSub (.thrust f)
    else s.reply e .refusedInterlock
  | _ => s.reply e .badArgs

/-- R75: BORE_STOP. -/
def takeBoreStop (e : ReqEntry) (s : State) : State :=
  if !noArgs e.args then s.reply e .badArgs
  else
    let boring := match s.op with
      | some o => o.spec.code == 4
      | none => false
    ((if boring then s.endOp .done .stoppedByRequest else s)).reply e .done

/-- R76: SPIN_OFF. -/
def takeSpinOff (e : ReqEntry) (s : State) : State :=
  match readCycles e.args with
  | none => s.reply e .badArgs
  | some n =>
    if s.spinClear && holdsAt (s.mirror .crowd) (fun p => p.live && p.showsRun) then
      ((s.acceptOp e (.spinOff n) .prepare).queueSub .winchHold).queueSub .crowdHold
    else s.reply e .refusedInterlock

end Sys2Proof.Machine
end

