-- ==== Sys2Proof/Machine/Tracking.lean ====
section
/-! DEFINITION. The Kelly Tracker (chapter 1): attribution (R6 to R10), its faults (R11), suspension and
resumption (R12 to R14), re-zero (R15 to R17), its events (R18), what it hands on (R19), the asserted
picture (R20, R21) and the datum (R22, R23). -/

namespace Sys2Proof.Machine

/-! ### The picture -/

/-- R2, R11, R14: every joint CLOSED, the stack empty, the residue 0. -/
def Tracker.cleared (t : Tracker) : Tracker :=
  { t with joints := t.joints.map fun _ => JointRec.closed, stack := [], residue := 0 }

/-- R1: a joint record replaced. -/
def Tracker.setJoint (j : Nat) (r : JointRec) (t : Tracker) : Tracker := { t with joints := t.joints.set (j - 1) r }

/-- R8, step 1: the FREE top takes up to its headroom; what is left. -/
def Tracker.growTop (slide : Nat → Nat) (free : Nat → Bool) (a : Nat) (t : Tracker) : Tracker × Nat :=
  match t.stack with
  | [] => (t, a)
  | j :: _ =>
    let x := (t.joint j).ext
    let d := min a (slide j - x)
    if free j then (t.setJoint j { opened := true, ext := x + d }, a - d) else (t, a)

/-- R8, step 2: a joint becomes OPEN with an extension and is pushed. -/
def Tracker.openJoint (j x : Nat) (t : Tracker) : Tracker :=
  { (t.setJoint j { opened := true, ext := x }) with stack := j :: t.stack }

/-- R8, step 2: the lowest-numbered CLOSED joint that is FREE opens, and the search is made again while
some of the amount is left; `fuel` is the number of joints. -/
def Tracker.growNew (slide : Nat → Nat) (free : Nat → Bool) : Nat → Nat → Tracker → Tracker × Nat
  | 0, a, t => (t, a)
  | fuel + 1, a, t =>
    if a = 0 then (t, 0)
    else
      match ((List.range t.joints.length).map (· + 1)).find? fun j => !(t.joint j).opened && free j with
      | none => (t, a)
      | some j => growNew slide free fuel (a - min a (slide j)) (t.openJoint j (min a (slide j)))

/-- R9: the FREE top gives up extension and is popped at 0; `fuel` is the number of joints. -/
def Tracker.shrink (free : Nat → Bool) : Nat → Nat → Tracker → Tracker × Nat
  | 0, a, t => (t, a)
  | fuel + 1, a, t =>
    if a = 0 then (t, 0)
    else
      match t.stack with
      | [] => (t, a)
      | j :: rest =>
        let x := (t.joint j).ext
        if !free j then (t, a)
        else if a < x then (t.setJoint j { opened := true, ext := x - a }, 0)
        else shrink free fuel (a - x) { (t.setJoint j JointRec.closed) with stack := rest }

/-- R8: an increase. -/
def Tracker.increase (slide : Nat → Nat) (free : Nat → Bool) (a : Nat) (t : Tracker) : Tracker :=
  let (t1, a1) := t.growTop slide free a
  let (t2, a2) := t1.growNew slide free t1.joints.length a1
  { t2 with residue := t2.residue + a2 }

/-- R9: a decrease. -/
def Tracker.decrease (free : Nat → Bool) (a : Nat) (t : Tracker) : Tracker :=
  let (t1, a1) := t.shrink free t.joints.length a
  { t1 with residue := t1.residue - a1 }

/-- R8, R9: what is left of a change after the cancellation goes to the joints. -/
def Tracker.place (slide : Nat → Nat) (free : Nat → Bool) (c : Int) (t : Tracker) : Tracker :=
  if 0 ≤ c then t.increase slide free c.toNat else t.decrease free (-c).toNat

/-- R7: the change has the sign opposite to the residue's. -/
def opposes (c residue : Int) : Bool := decide ((0 < c ∧ residue < 0) ∨ (c < 0 ∧ 0 < residue))

/-- R6 to R9: one change of E attributed: residue cancellation first. -/
def Tracker.attribute (slide : Nat → Nat) (free : Nat → Bool) (c : Int) (t : Tracker) : Tracker :=
  if opposes c t.residue then
    if c.natAbs ≤ t.residue.natAbs then { t with residue := t.residue + c }
    else ({ t with residue := 0 }).place slide free (c + t.residue)
  else t.place slide free c

/-- R10: no joint is CLOSED and the top joint stands at its slide. -/
def Tracker.fullyDrawn (slide : Nat → Nat) (t : Tracker) : Bool :=
  t.joints.all (·.opened) && (match t.stack with
    | [] => false
    | j :: _ => (t.joint j).ext == slide j)

/-- R10: the fault of a change whose residue would pass SLIP_TOL. -/
def slipKind (slide : Nat → Nat) (c : Int) (after : Tracker) : FaultKind :=
  if 0 < c ∧ after.fullyDrawn slide then .overExtension else .lockSlip

/-- R18: a tracker event written. -/
def Tracker.write (k : TrackerEventKind) (amount : Int) (t : Tracker) : Tracker :=
  { t with event := { kind := k, amount := amount, seq := (t.event.seq + 1) % 256 } }

/-! ### What the tracker does to the node -/

/-- R11, R58, R99: the tracker raises a fault: the pull, UNKNOWN with the picture cleared, the operation
ABORTED, and an ACTIVE PAY ended with the fault as reason; a PAY still RELEASING ends with the same reason
when it enters ACTIVE, as the tracker keeps the fault. -/
def State.trackerFault (k : FaultKind) (s : State) : State :=
  let s := s.raiseStop k
  let s := s.withTrk { s.trk.cleared with state := .unknown, leftBy := some k }
  s.faultOp.checkPay false

/-- R6, R10, R19: one change of E while TRACKING. -/
def State.trackChange (c : Int) (s : State) : State :=
  let slide := fun j => (s.geom j).slide
  let t := s.trk.attribute slide s.freeInMirror c
  if t.residue.natAbs ≤ s.node.setup.slipTol then
    (s.withTrk t).signalIf (decide (t.stack ≠ s.trk.stack))
  else s.trackerFault (slipKind slide c t)

/-- R12: SUSPENDED, with the suspension extension. -/
def State.suspend (es : Int) (s : State) : State := (s.withTrk { s.trk with state := .suspended, es := es, leftBy := none }).signal

/-- R14: the resumption comparison. -/
def State.resume (s : State) : State :=
  let d := s.E - s.trk.es
  let tol := s.node.setup.slipTol
  if d.natAbs ≤ tol ∧ (s.trk.residue + d).natAbs ≤ tol then
    (s.withTrk { s.trk with residue := s.trk.residue + d, state := .tracking }).signal
  else (s.withTrk ({ s.trk.cleared with state := .unknown }.write .trackingLost d)).signal

/-- R15: a re-zero: the rope offset becomes P − T and the picture is cleared. -/
def State.rezeroed (s : State) : Tracker := { s.trk.cleared with ropeOffset := s.sens.payout - s.strokeInUse }

/-- R15, R16: HOME_CORRECTION is written when a picture or an extension was corrected. -/
def State.corrected (s : State) (t : Tracker) : Tracker :=
  if s.trk.stack ≠ [] ∨ s.E ≠ 0 then t.write .homeCorrection s.E else t

/-- R17: the tracking state after a re-zero from UNKNOWN. -/
def State.rezeroUnknown (s : State) : State :=
  let t := s.rezeroed
  (s.withTrk (if s.bothGood then { t with state := .tracking } else { t with state := .suspended, es := 0 })).signal

/-- R15, R16, R17: the kelly home input becomes active; every re-zero is signalled (R19). -/
def State.trackHome (s : State) : State :=
  match s.trk.state with
  | .tracking =>
    (s.withTrk (s.corrected s.rezeroed)).signal
  | .suspended =>
    if s.strokeAvailable then (s.withTrk (s.corrected { s.rezeroed with es := 0 })).signal
    else (s.withTrk ({ s.trk.cleared with state := .unknown }.write .trackingLost 0)).signal
  | .unknown => if s.strokeAvailable ∧ s.trk.joints ≠ [] then s.rezeroUnknown else s

/-- R4, R6, R12, R14, R17: the mirrors have changed; `before` is the state before the event. -/
def State.trackMirrors (before : State) (s : State) : State :=
  match s.trk.state with
  | .tracking => if s.bothGood then s.trackChange (s.E - before.E) else s.suspend before.E
  | .suspended => if s.bothGood then s.resume else s
  | .unknown =>
    if !before.strokeAvailable && s.strokeAvailable && s.sens.home && decide (s.trk.joints ≠ []) then s.rezeroUnknown
    else s

/-- R3, R6: a rope event, the payout reading having changed from `before`. -/
def State.trackRope (before : State) (s : State) : State :=
  if s.trk.state = .tracking then s.trackChange (s.E - before.E) else s

/-- R19: the lock mirror as the tracker reads it. -/
def State.lockView (s : State) : Option (Nat × List Nat) := s.lockMirror.map fun r => (r.j, r.locks)

/-- R62: the operation hears that tracking has left TRACKING. -/
def State.trackLossNoted (before : State) (s : State) : State :=
  if before.trk.state = .tracking ∧ s.trk.state ≠ .tracking then s.opTrackingLost else s

/-- R96, R98, R101: the winch drive takes a hand-on: PAY by tracking, depth, and the room after a rope
event or a change of the lock mirror; HAUL by its top joint after a change of the lock mirror or a pop
(log 24). -/
def State.winchHandOn (before : State) (rope : Bool) (s : State) : State :=
  let lockChanged := decide (s.lockView ≠ before.lockView)
  let popped := decide (s.trk.stack.length < before.trk.stack.length)
  let s := s.checkPay (rope || lockChanged)
  if lockChanged || popped then s.checkTop else s

/-! ### Tool output (R95) -/

/-- R95: the tool state becomes HELD. -/
def State.holdTool (s : State) : State := s.setDrv { s.drv with tool := .held }

/-- R95: an OPEN tool whose interlock fails becomes HELD. -/
def State.judgeTool (s : State) : State :=
  if s.drv.tool = .opened ∧ !s.toolInterlock then s.holdTool else s

/-! ### Requests of the tracker -/

/-- R21: the picture rebuilt from a list in opening order. -/
def Tracker.rebuild (es : List (Nat × Nat)) (t : Tracker) : Tracker :=
  es.foldl (fun t e => t.openJoint e.1 e.2) t.cleared

/-- R20: the listed extensions together. -/
def pictureSum (es : List (Nat × Nat)) : Nat := (es.map (·.2)).sum

/-- R20, R21: ASSERT_PICTURE. -/
def takeAssertPicture (e : ReqEntry) (s : State) : State :=
  match s.readPicture e.args with
  | none => s.reply e .badArgs
  | some es =>
    let r := s.E - pictureSum es
    if s.trk.state ≠ .unknown ∨ !s.strokeAvailable ∨ r.natAbs > s.node.setup.slipTol then
      s.reply e .refusedInterlock
    else
      let t := { s.trk.rebuild es with residue := r }
      let t := if s.bothGood then { t with state := .tracking } else { t with state := .suspended, es := s.E }
      ((s.withTrk t).signal).reply e .done

/-- R23: SET_DATUM, with PAY and the tool judged on the new D (R98, R95); the REPLY of a PAY that it ends is
queued before its own (R172). -/
def takeSetDatum (e : ReqEntry) (s : State) : State :=
  match readDepth e.args with
  | none => s.reply e .badArgs
  | some d =>
    let s := (s.withTrk { s.trk with datumOffset := s.sens.payout - s.trk.ropeOffset - d }).signal
    ((s.checkPay false).judgeTool).reply e .done

end Sys2Proof.Machine
end

