-- ==== Sys2Proof/Machine/Turning.lean ====
section
/-! DEFINITION. The Lock Monitor (chapter 2): direction and travel (R29, R30), the seat watch and its ends
(R31 to R35), the release (R36), its events (R37); and what the rotary drive makes of them: the ends of
LOCK (R41) and RELEASE (R43), the phases of a stall recovery (R122 to R127) and the SPIN halves (R131). -/

namespace Sys2Proof.Machine

/-! ### The monitor -/

/-- R30: a travel count saturates at 32767. -/
def travel (n : Nat) : Nat := min n 32767

/-- R37: a lock event written. -/
def LockMonitor.write (k : LockEventKind) (n : Nat) (l : LockMonitor) : LockMonitor :=
  { l with event := { kind := k, travel := n, seq := (l.event.seq + 1) % 256 } }

/-- R29, R30, R31: a clockwise angle event of a size: a forward start opens or restarts the watch once the
records exist. -/
def LockMonitor.clockwise (n : Nat) (l : LockMonitor) : LockMonitor :=
  if l.dir = .forward then { l with fwd := travel (l.fwd + n), rev := 0 }
  else
    let opens := decide (l.records ≠ [])
    { l with dir := .forward, fwd := travel n, rev := 0, watch := l.watch || opens,
             watchOfTurn := l.watchOfTurn || opens }

/-- R29, R30, R31: an anticlockwise angle event of a size closes the watch without a result. -/
def LockMonitor.anticlockwise (n : Nat) (l : LockMonitor) : LockMonitor :=
  { l with dir := .reverse, rev := travel (l.rev + n), watch := false, watchOfTurn := false }

/-- R35: the watch ends in a miss. -/
def LockMonitor.miss (l : LockMonitor) : LockMonitor :=
  ({ l with watch := false }).write .miss l.fwd

/-- R36: a release: every joint FREE, validity KNOWN. -/
def LockMonitor.releaseAll (l : LockMonitor) : LockMonitor :=
  ({ l with records := l.records.map fun _ => none, known := true }).write .released l.rev

/-- R36: an event that took reverse travel from `before` past RELEASE_ANGLE. -/
def LockMonitor.passesRelease (angle before : Nat) (l : LockMonitor) : Bool :=
  decide (before ≤ angle ∧ angle < l.rev ∧ l.records ≠ [])

/-- R33: a joint's record after a seat event with good geometry. -/
def seatRecord (g : JointGeom) (count ext : Nat) : Option Nat → Option Nat
  | some k => some k
  | none => g.alignedPocket count ext

/-- R33: the winch mirror gives good geometry. -/
def State.goodGeometry (s : State) : Bool :=
  holdsAt (s.mirror .winch) fun p =>
    p.presence == .fresh && p.winchShows fun w => w.tracking == Tracking.tracking.code && w.j == s.jointCount

/-- R33: the extension the winch mirror shows for a joint. -/
def State.winchExt (s : State) (j : Nat) : Nat := (((s.mirror .winch).bind Peer.winch?).map (·.extAt j)).getD 0

/-- R33: the lock records after a seat event with good geometry. -/
def State.seatedRecords (s : State) : List (Option Nat) :=
  s.locks.records.zipIdx.map fun (r, i) =>
    seatRecord (s.geom (i + 1)) (s.locks.pocketCounts.getD i 0) (s.winchExt (i + 1)) r

/-- R33, R34: a seat event is taken, by the winch mirror as it stands. -/
def State.seatEvent (s : State) : State :=
  let l := { s.locks with watch := false }
  if s.goodGeometry then
    (s.withLocks (({ l with records := s.seatedRecords, known := true }).write .seated l.fwd)).signal
  else (s.withLocks (({ l with known := false }).write .geometryStale l.fwd)).signal

/-! ### The rotary drive -/

/-- R41: the content of a LOCK answered DONE: the seated list, then lock validity KNOWN. -/
def State.lockContent (s : State) : List Byte :=
  let l := s.locks.seatedList
  code1 l.length ++ l.flatMap (fun p => code1 p.1 ++ code1 p.2) ++ code1 1

/-- R118: the bore lock condition. -/
def State.boreLock (s : State) : Bool := s.locks.known && s.winchGeometry && s.openSeated

/-- R127: the check at the end of a restart: the bore resumes or ends RELOCK_FAILED. -/
def State.restartCheck (s : State) : State :=
  if s.boreLock then (s.setDrv { s.drv with recovery := .boring }).rejudgeStall
  else s.endMode .failed .relockFailed

/-- R123, R125: the reverse phase ends when reverse travel reaches REVERSE_ANGLE. -/
def State.checkReverse (s : State) : State :=
  if s.drv.stallJudged ∧ s.drv.boring ∧ s.drv.recovery = .reversing
      ∧ s.locks.rev ≥ s.node.setup.reverseAngle then
    (s.setDrv { s.drv with recovery := .restarting }).rejudgeStall
  else s

/-- R41, R125: the drive hears that a seat watch ended; `ofTurn` says that it opened within the LOCK turn. -/
def State.watchEnded (ofTurn : Bool) (res : Result) (why : Reason) (content : List Byte) (s : State) : State :=
  match s.drv.mode, s.drv.state with
  | .lock, .active => if ofTurn then s.endMode res why true content else s
  | .bore _ _, .active => if s.drv.recovery = .restarting then s.restartCheck else s
  | _, _ => s

/-- R131: the spin record of an ACTIVE SPIN after an angle event. A change of half does not judge the stall watch;
the next torque or speed event does (DESIGN CHOICE beside R115 and R121, log 33). -/
def State.checkSpin (change : Int) (s : State) : State :=
  match s.drv.mode, s.drv.state with
  | .spin cycles, .active =>
    let p := s.drv.spin
    if p.reverseHalf then
      if s.locks.rev ≥ 3600 then
        if p.done + 1 ≥ cycles then s.endMode .done .noReason
        else s.setDrv { s.drv with spin := { done := p.done + 1, reverseHalf := false, count := 0 } }
      else s
    else
      let c := min 3600 ((p.count : Int) + change).toNat
      s.setDrv { s.drv with spin := { p with count := c, reverseHalf := decide (c ≥ 3600) } }
  | _, _ => s

/-- R29 to R31, R35: a clockwise angle event at the rotary node. -/
def State.turnForward (n : Nat) (s : State) : State :=
  let l := s.locks.clockwise n
  if l.watch && decide (l.fwd > s.node.setup.lockAngle) then
    ((s.withLocks l.miss).signal).watchEnded l.watchOfTurn .failed .lockMiss []
  else s.withLocks l

/-- R29 to R31, R36: an anticlockwise angle event at the rotary node. -/
def State.turnBack (n : Nat) (s : State) : State :=
  let l := s.locks.anticlockwise n
  if l.passesRelease s.node.setup.releaseAngle s.locks.rev then (s.withLocks l.releaseAll).signal
  else s.withLocks l

/-- R29, R115: an angle event: the monitor, then the modes that count travel. -/
def State.turn (change : Int) (s : State) : State :=
  let s := s.withSens { s.sens with angle := s.sens.angle + change }
  let s := if 0 < change then s.turnForward change.toNat else s.turnBack (-change).toNat
  ((s.checkRelease).checkReverse).checkSpin change

/-- R32: a torque event that ends the open watch in a seat event. -/
def State.seats (s : State) : Bool :=
  s.locks.watch && decide (s.sens.torque ≥ s.node.setup.seatTorque)
    && decide (s.locks.fwd ≤ s.node.setup.lockAngle)

/-- R32, R41, R121: a torque event at the rotary node, the reading having been taken. -/
def State.twisted (s : State) : State :=
  let s := if s.seats then
      let good := s.goodGeometry
      let ofTurn := s.locks.watchOfTurn
      let s := s.seatEvent
      if good then s.watchEnded ofTurn .done .noReason s.lockContent
      else s.watchEnded ofTurn .failed .geometryStale []
    else s
  s.judgeStall

/-- R122, R123: a stall in the boring phase: STALLED past STALL_TRIES, else a recovery begins. -/
def State.stallBoring (s : State) : State :=
  let n := s.drv.attempts + 1
  let s := s.setDrv { s.drv with attempts := n }
  if n > s.node.setup.stallTries then s.endMode .failed .stalled
  else ((s.setDrv { s.drv with recovery := .reversing }).rejudgeStall).checkReverse

/-- R122, R124, R126, R132: the stall watch has expired; the watch is CLEAR. -/
def State.stallTaken (s : State) : State :=
  match s.drv.mode with
  | .bore _ _ =>
    match s.drv.recovery with
    | .boring => s.stallBoring
    | .reversing => s.endMode .failed .stalled
    | .restarting => s.restartCheck
  | .spin _ => s.endMode .failed .stalled
  | _ => s

end Sys2Proof.Machine
end

