-- ==== Sys2Proof/Machine/NodeControl.lean ====
section
/-! DEFINITION. Node Control (chapter 11): changes of node state (R203), FAULT entry (R204, R87, R60), the
setup table and its commit (R201, R202), resets (R209), parking (R207) and CLEAR_FAULT (R206). -/

namespace Sys2Proof.Machine

/-! ### Node states -/

/-- R104: the slack watch when the node leaves RUN, or enters it with a slack rope. -/
def State.slackOnState (old new : NodeState) (s : State) : State :=
  if old = .run ∧ new ≠ .run then s.setDrv { s.drv with slack := .clear, slackTimer := none }
  else if old ≠ .run ∧ new = .run ∧ s.role = some .winch ∧ s.sens.tension < s.node.setup.slackTension then
    s.setDrv { s.drv with slack := .timing, slackTimer := Timer.ms s.node.setup.slackTime }
  else s

/-- R95: the tool goes to HELD when the node leaves RUN. -/
def State.toolOnState (new : NodeState) (s : State) : State := if new = .run then s else s.holdTool

/-- R159: the periodic timer is restarted at a change of node state into or out of PARKED. -/
def State.periodOnState (old new : NodeState) (s : State) : State :=
  if (old = .parked) ≠ (new = .parked) then s.startPeriodic else s

/-- R203: a change of node state, signalled, with what other rules attach to it (R95, R104, R112, R159). -/
def State.setNodeState (new : NodeState) (s : State) : State :=
  let old := s.node.state
  let s := (s.withNode { s.node with state := new }).signal
  let s := (s.slackOnState old new).toolOnState new
  (s.periodOnState old new).judgeWithheld

/-- R204, R208: parking is undone: timer stopped, supply on, park state NONE, the held broadcasts not
taken. -/
def State.unpark (s : State) : State :=
  (s.withNode { s.node with park := .notParked, parkTimer := none, interrupted := false, heldBc := [] }).withDrv
    { s.drv with supply := true }

/-! ### FAULT -/

/-- R87: the drive at FAULT entry: a direct request that is not a HOLD is replied OWNER_FAULT; a HOLD request
stays and waits for the set. -/
def State.faultDrive (s : State) : State :=
  if s.drv.holdsForRequest then s
  else
    let s := match s.drv.sourceEntry with
      | some id => s.replyTo id .failed .ownerFault
      | none => s
    s.holdDrive

/-- R204: an entry of a parked node that FAULT entry replies REFUSED_STATE: every one but a RESET_NODE that
awaits its reset. -/
def State.refuseHeld (s : State) : State :=
  (s.req.table.filter ReqEntry.emptied).foldl (fun s e => s.reply e .refusedState) s

/-- R204: FAULT entry from a state other than FAULT. A listen timer that runs stops (DESIGN CHOICE, log 45). -/
def State.enterFault (s : State) : State :=
  let wasParked := s.node.state = .parked
  let s := (s.faultDrive).displaceOp .failed .ownerFault
  let s := if wasParked then s.refuseHeld.unpark else s
  (s.withNode { s.node with listen := none }).setNodeState .fault

/-- R154, R155, R200: a fault kind that puts the node in FAULT. -/
def State.faultWith (k : FaultKind) (s : State) : State :=
  let s := s.setFault k
  if s.node.state = .fault then s else s.enterFault

/-- R154: ROLE_CONFLICT. -/
def State.roleConflict (s : State) : State := s.faultWith .roleConflict

/-- R155, R180, R196: DUPLICATE_STATION: FAULT, the assembler stopped, every queued frame discarded, no
default record kept. A frame in the shifter runs its attempt. -/
def State.duplicateStation (s : State) : State :=
  let s := s.faultWith .duplicateStation
  let s := (s.withPub { s.pub with timer := none }).withQueue []
  s.withReq { s.req with defaults := [] }

/-- R154: a lower-numbered live entry of the node's own role. -/
def State.conflictHeld (s : State) : Bool :=
  s.peers.any fun p => p.live && decide (p.station < s.station) && (some p.role == s.role)

/-- R158, R200: the first frame is signalled and the periodic timer started. -/
def State.beginPublishing (s : State) : State := if s.canPublish then (s.startPeriodic).signal else s

/-- R200: the listen timer has expired: FAULT for invalid straps, else SETUP with the role comparison. -/
def State.leaveListen (s : State) : State :=
  let s := s.withNode { s.node with listen := none }
  if s.strapsInvalid then (s.faultWith .strapInvalid).beginPublishing
  else
    let s := (s.setNodeState .setup).beginPublishing
    if s.conflictHeld then s.roleConflict else s

/-! ### Stop line and HALT -/

/-- R85, R174, R58: what STOPPED entry and HALT share: an operation ends ABORTED, the drive holds, the tool
holds, the request table is emptied with ABORTED replies. -/
def State.abortAll (s : State) : State := ((s.stopOp).holdDrive.holdTool).emptyTable

/-- R203, R208: the stop line is sensed asserted. -/
def State.stopAsserted (s : State) : State :=
  match s.node.state with
  | .ready => (s.abortAll).setNodeState .stopped
  | .run => (s.abortAll).setNodeState .stopped
  | .parked => ((s.abortAll).unpark).setNodeState .stopped
  | _ => s

/-- R175: a HALT taken in RUN; the node stays in RUN. -/
def State.halted (s : State) : State := if s.node.state = .run then s.abortAll else s

/-- R203: a START taken. -/
def State.started (s : State) : State := if s.node.state = .ready then s.setNodeState .run else s

/-! ### The setup table -/

/-- 11.2: an item: its code, its index range and its value range; `step` is PUB_PERIOD's multiple. -/
structure ItemSpec where
  code : Nat
  loIndex : Nat
  hiIndex : Nat
  lo : Int
  hi : Int
  step : Int
  deriving DecidableEq, Repr

/-- An item with index 0. -/
def scalarItem (code : Nat) (lo hi : Int) : ItemSpec :=
  { code := code, loIndex := 0, hiIndex := 0, lo := lo, hi := hi, step := 1 }

/-- 11.2: the items of the kelly and of the rig. -/
def rigItems : List ItemSpec :=
  [scalarItem 0x01 2 6,
   { code := 0x02, loIndex := 1, hiIndex := 5, lo := 1000, hi := 25000, step := 1 },
   { code := 0x03, loIndex := 1, hiIndex := 5, lo := 500, hi := 6000, step := 1 },
   { code := 0x04, loIndex := 1, hiIndex := 5, lo := 10, hi := 150, step := 1 },
   { code := 0x10, loIndex := 0, hiIndex := 0, lo := 20, hi := 250, step := 10 },
   scalarItem 0x11 3 20, scalarItem 0x12 50 1500, scalarItem 0x13 1000 150000,
   scalarItem 0x14 (-50000) 50000, scalarItem 0x15 (-50000) 50000, scalarItem 0x16 20 300]

/-- 11.2: the items of the winch and crowd axes. -/
def axisItems : List ItemSpec :=
  [scalarItem 0x20 50 1000, scalarItem 0x21 50 1000, scalarItem 0x22 50 1500, scalarItem 0x23 5 200,
   scalarItem 0x24 100 2000, scalarItem 0x25 10 400, scalarItem 0x26 5 300,
   scalarItem 0x30 10 800, scalarItem 0x31 0 100, scalarItem 0x32 20 500, scalarItem 0x33 0 25000,
   scalarItem 0x34 0 25000]

/-- 11.2: the items of the rotary axis, the aux windows and COMMIT. -/
def rotaryItems : List ItemSpec :=
  [scalarItem 0x40 20 600, scalarItem 0x41 2 60, scalarItem 0x42 100 600, scalarItem 0x43 10 100,
   scalarItem 0x44 150 600, scalarItem 0x45 1 50, scalarItem 0x46 100 2000, scalarItem 0x47 1 5,
   scalarItem 0x48 100 1800, scalarItem 0x49 100 500,
   { code := 0x50, loIndex := 1, hiIndex := 2, lo := 0, hi := 255, step := 1 },
   { code := 0x51, loIndex := 1, hiIndex := 2, lo := 0, hi := 255, step := 1 },
   { code := 0x52, loIndex := 1, hiIndex := 2, lo := 0, hi := 3, step := 1 },
   scalarItem 0x7F 0 0]

/-- 11.2: the table of setup items. -/
def itemTable : List ItemSpec := rigItems ++ axisItems ++ rotaryItems

/-- R201: the item of a code, when the index lies in its range. -/
def itemSpec (code index : Nat) : Option ItemSpec :=
  itemTable.find? fun i => i.code == code && decide (i.loIndex ≤ index ∧ index ≤ i.hiIndex)

/-- The order of the setup table: by code, then by index. -/
def keyBefore (a b : Nat × Nat) : Bool := decide (a.1 < b.1 ∨ (a.1 = b.1 ∧ a.2 < b.2))

/-- R201: a value stored, replacing an earlier one. -/
def storeItem (k : Nat × Nat) (v : Int) : List ((Nat × Nat) × Int) → List ((Nat × Nat) × Int)
  | [] => [(k, v)]
  | (k', v') :: rest =>
    if keyBefore k k' then (k, v) :: (k', v') :: rest
    else if k = k' then (k, v) :: rest
    else (k', v') :: storeItem k v rest

/-- R201: a bad item kept, once. -/
def storeBad (k : Nat × Nat) : List (Nat × Nat) → List (Nat × Nat)
  | [] => [k]
  | k' :: rest => if keyBefore k k' then k :: k' :: rest else if k = k' then k' :: rest else k' :: storeBad k rest

/-- R201: what the table holds for a code and index. -/
def heldItem (items : List ((Nat × Nat) × Int)) (code index : Nat) : Option Int :=
  (items.find? fun e => e.1 == (code, index)).map (·.2)

/-- 11.2: the held value, or the default. -/
def itemOr (items : List ((Nat × Nat) × Int)) (code : Nat) (dflt : Nat) : Nat :=
  match heldItem items code 0 with
  | some v => v.toNat
  | none => dflt

/-- R202: J by the table, once SECTIONS is held in range. -/
def tableJoints (items : List ((Nat × Nat) × Int)) : Option Nat :=
  match heldItem items 0x01 0 with
  | some n => if 2 ≤ n ∧ n ≤ 6 then some (n - 1).toNat else none
  | none => none

/-- The keys of the geometry of joints 1..J, in order of code and index. -/
def geometryKeys (j : Nat) : List (Nat × Nat) :=
  [0x02, 0x03, 0x04].flatMap fun c => (List.range j).map fun i => (c, i + 1)

/-- R202, pass 1. -/
def passBad (bad : List (Nat × Nat)) : Option SetupFailure :=
  bad.head?.map fun k => { code := k.1, index := k.2, cause := .badItem }

/-- R202, pass 2. -/
def passMissing (items : List ((Nat × Nat) × Int)) : Option SetupFailure :=
  if (heldItem items 0x01 0).isNone then some { code := 0x01, index := 0, cause := .missing }
  else
    ((geometryKeys ((tableJoints items).getD 0)).find? fun k => (heldItem items k.1 k.2).isNone).map
      fun k => { code := k.1, index := k.2, cause := .missing }

/-- R202, pass 3: a value in its range; values for joints above J are not judged. -/
def itemInRange (j : Nat) (e : (Nat × Nat) × Int) : Bool :=
  match itemSpec e.1.1 e.1.2 with
  | some i =>
    (decide (2 ≤ e.1.1 ∧ e.1.1 ≤ 4 ∧ j < e.1.2)) || (decide (i.lo ≤ e.2 ∧ e.2 ≤ i.hi) && e.2 % i.step == 0)
  | none => true

/-- R202, pass 3. -/
def passRange (items : List ((Nat × Nat) × Int)) : Option SetupFailure :=
  (items.find? fun e => !itemInRange ((tableJoints items).getD 0) e).map
    fun e => { code := e.1.1, index := e.1.2, cause := .range }

/-- 11.2: the items in force after a commit, missing ones at their defaults. -/
def committedSetup (items : List ((Nat × Nat) × Int)) : Setup :=
  let at' := fun c i => ((heldItem items c i).getD 0).toNat
  { joints := (List.range ((tableJoints items).getD 0)).map fun i =>
      { slide := at' 0x02 (i + 1), pitch := at' 0x03 (i + 1), tol := at' 0x04 (i + 1) }
    pubPeriod := itemOr items 0x10 50, lostMult := itemOr items 0x11 6, capFallback := itemOr items 0x12 200
    maxDepth := itemOr items 0x13 90000
    datumOffset := (heldItem items 0x14 0).getD 0, ropeOffset := (heldItem items 0x15 0).getD 0
    slipTol := itemOr items 0x16 50, brakeSet := itemOr items 0x20 300, brakeRelease := itemOr items 0x21 200
    ropeSpeedMax := itemOr items 0x22 600, slackTension := itemOr items 0x23 20
    slackTime := itemOr items 0x24 500, floatTension := itemOr items 0x25 60, floatClaim := itemOr items 0x26 40
    thrustMax := itemOr items 0x30 300, feedForce := itemOr items 0x31 20, crowdSpeedMax := itemOr items 0x32 150
    strokeMin := itemOr items 0x33 0, strokeMax := itemOr items 0x34 12000
    torqueMax := itemOr items 0x40 250, seatTorque := itemOr items 0x41 10, lockAngle := itemOr items 0x42 250
    lockSpeed := itemOr items 0x43 20, releaseAngle := itemOr items 0x44 200, stallSpeed := itemOr items 0x45 20
    stallTime := itemOr items 0x46 300, stallTries := itemOr items 0x47 3, reverseAngle := itemOr items 0x48 300
    spinSpeed := itemOr items 0x49 300 }

/-- R202, pass 4: the cross checks in order, with whether each fails. -/
def crossFailures (su : Setup) : List (CrossCheck × Nat × Bool) :=
  let js := su.joints.zipIdx
  js.map (fun (g, i) => (.pitchSlide (i + 1), i + 1, decide (g.pitch > g.slide)))
    ++ js.map (fun (g, i) => (.tolPitch (i + 1), i + 1, decide (4 * g.tol ≥ g.pitch)))
    ++ [(.stroke, 0, decide (su.strokeMin ≥ su.strokeMax)), (.torque, 0, decide (su.seatTorque ≥ su.torqueMax))]

/-- R202, pass 4; the code recorded is a free value (log 9). -/
def passCross (su : Setup) : Option SetupFailure :=
  ((crossFailures su).find? fun c => c.2.2).map
    fun c => { code := Config.crossCode c.1, index := c.2.1, cause := .cross }

/-- R202: the first failure of the four passes. The cross checks read an item that was not sent at its default (DESIGN
CHOICE, log 41). -/
def commitFailure (n : NodeCtl) : Option SetupFailure :=
  ((passBad n.badItems).orElse fun _ => passMissing n.items).orElse fun _ =>
    (passRange n.items).orElse fun _ => passCross (committedSetup n.items)

/-- R202: a failed commit. -/
def State.commitFails (f : SetupFailure) (s : State) : State :=
  (s.withNode { s.node with failure := some f }).setFault .setupError

/-- R167: the aux window committed for n. -/
def committedAux (items : List ((Nat × Nat) × Int)) (n : Nat) : AuxWindow :=
  { base := BitVec.ofInt 8 ((heldItem items 0x50 n).getD 0)
    mask := BitVec.ofInt 8 ((heldItem items 0x51 n).getD 0)
    qual := match heldItem items 0x52 n with
      | some 1 => .set
      | some 2 => .query
      | some 3 => .both
      | _ => .off }

/-- R1, R3, R22: the Kelly Tracker of a winch node takes its committed values. -/
def State.commitTracker (s : State) : State :=
  if s.role = some .winch then
    s.withTrk { s.trk with joints := s.node.setup.joints.map (fun _ => JointRec.closed), stack := [], residue := 0,
                           ropeOffset := s.node.setup.ropeOffset, datumOffset := s.node.setup.datumOffset }
  else s

/-- R26, R27, R28: the Lock Monitor of a rotary node takes its committed values. -/
def State.commitLocks (s : State) : State :=
  if s.role = some .rotary then
    s.withLocks { s.locks with records := s.node.setup.joints.map (fun _ => none),
                               pocketCounts := s.node.setup.joints.map JointGeom.pockets, known := false }
  else s

/-- R150: an AGED entry judged against LOST_MULT. -/
def Peer.judgedLost (mult : Nat) (p : Peer) : Peer :=
  if p.presence = .aged ∧ p.age > mult * p.period then { p with presence := .lost } else p

/-- R17: the commit re-zeros a tracker with kelly home active and the crowd stroke available. -/
def State.commitRezero (s : State) : State :=
  if s.role = some .winch ∧ s.sens.home ∧ s.strokeAvailable then s.rezeroUnknown else s

/-- R202: a successful commit: the blocks take their values, and the node enters READY, or STOPPED with the
stop line asserted. -/
def State.commitSucceeds (s : State) : State :=
  let items := s.node.items
  let oldPeriod := s.node.setup.pubPeriod
  let s := s.withNode { s.node with setup := committedSetup items, committed := true, failure := none }
  let s := s.withReq { s.req with aux1 := committedAux items 1, aux2 := committedAux items 2 }
  let s := (s.commitTracker).commitLocks
  let s := s.withPeers (s.peers.map (Peer.judgedLost s.node.setup.lostMult))
  let s := (s.commitRezero).recompute
  let s := if s.node.setup.pubPeriod ≠ oldPeriod then s.startPeriodic else s
  s.setNodeState (if s.sens.stopLine then .stopped else .ready)

/-- R202: a COMMIT: SETUP_ERROR is removed first. -/
def State.commit (s : State) : State :=
  let s := s.clearFault .setupError
  match commitFailure s.node with
  | some f => s.commitFails f
  | none => s.commitSucceeds

/-- R201: one record taken in SETUP; none after a successful commit, which leaves SETUP. A COMMIT record whose index is not
0 is a bad item and starts no commit (DESIGN CHOICE, log 47). -/
def State.takeItem (r : ItemRecord) (s : State) : State :=
  if s.node.state ≠ .setup then s
  else if (itemSpec r.code r.index).isSome then
    let s := s.withNode { s.node with items := storeItem (r.code, r.index) r.value s.node.items }
    if r.code = 0x7F then s.commit else s
  else s.withNode { s.node with badItems := storeBad (r.code, r.index) s.node.badItems }

/-! ### Resets (R209) -/

/-- R209: the prior state of a RESET_LINE or REQUESTED reset. -/
def priorOf : NodeState → PriorState
  | .parked => .parked
  | .stopped => .stopped
  | .run => .run
  | _ => .other

/-- R209: a reset of a kind, with the strap pins as they stand. -/
def State.resetWith (cause : ResetCause) (prior : PriorState) (pins : Straps) (s : State) : State :=
  State.afterReset cause prior pins s.sens s.pending

/-- R209: the CLAIM of a RESET_NODE entry is this frame's. -/
def TxFrame.claimsReset (id : Nat) (f : TxFrame) : Bool := f.owner == .resetClaim id

/-- R209: the reset of an entry is due: its CLAIM has left the node, or waits in a held queue. -/
def State.entryResetDue (s : State) (e : ReqEntry) : Bool :=
  e.fn == Fn.resetNode && e.state == .claimed
    && !(s.line.shifter.any (TxFrame.claimsReset e.id))
    && (!(s.line.queue.any (TxFrame.claimsReset e.id)) || s.line.state != .normal)

/-- R209: some RESET_NODE is due. -/
def State.resetDue (s : State) : Bool := s.req.table.any s.entryResetDue

/-- R209: a REQUESTED reset. It samples the strap pins as the last reset with pins of its own left them, since no row
moves a pin (DESIGN CHOICE, log 42). -/
def State.requestedReset (s : State) : State := s.resetWith .requested (priorOf s.node.state) s.node.pins

/-- R209: the end of a step in which a RESET_NODE can become due. -/
def State.conclude (s : State) : State := if s.resetDue then s.requestedReset else s.finish

/-! ### CLEAR_FAULT (R206) -/

/-- R206: the condition of a fault kind is gone. The kinds that put a node in FAULT stay until a reset
(R204). -/
def State.conditionGone (s : State) : FaultKind → Bool
  | .lockSlip => true
  | .overExtension => true
  | .slackRope => decide (s.sens.tension > s.node.setup.slackTension)
  | .guardStarved => !s.share.guardShort
  | .setupError => true
  | _ => false

/-- R206: a kind whose condition is gone is removed from the fault set and from the pull. -/
def State.clearIfGone (k : FaultKind) (s : State) : State :=
  if s.conditionGone k then
    let s := s.clearFault k
    s.withNode { s.node with pull := s.node.pull.put k false }
  else s

/-- R206: the kinds that CLEAR_FAULT judges. -/
def clearable : List FaultKind := [.setupError, .lockSlip, .overExtension, .slackRope, .guardStarved, .lineFault]

/-- R206: every kind whose condition is gone is cleared. -/
def State.clearFaults (s : State) : State := clearable.foldl (fun s k => s.clearIfGone k) s

/-- R206: CLEAR_FAULT. -/
def takeClearFault (e : ReqEntry) (s : State) : State :=
  if s.node.state = .fault then s.reply e .refusedState
  else if !stationArgOnly e.args then s.reply e .badArgs
  else
    let s := s.clearFaults
    s.reply e .done .noReason (natBytes 2 s.node.faults.code)

/-- R209: RESET_NODE: its entry stays CLAIMED until the reset. -/
def takeResetNode (e : ReqEntry) (s : State) : State :=
  if stationArgOnly e.args then s else s.reply e .badArgs

/-! ### Parking (R207, R208) -/

/-- R207: the entry into parking begins. -/
def State.beginPark (e : ReqEntry) (s : State) : State :=
  let back := decide (s.node.state = .run)
  let s := s.withNode { s.node with park := .entering, parkTimer := Timer.ms 100, interrupted := false,
                                    returnRun := back }
  let s := s.withDrv { s.drv with supply := false }
  (s.setEntry e.id .acting).setNodeState .parked

/-- R207: READY or RUN is idle: no other entry, no operation, the drive HELD. -/
def State.idleFor (s : State) (e : ReqEntry) : Bool :=
  s.req.table.all (fun x => x.id == e.id) && s.op.isNone && s.drv.state == .held

/-- R207: PARK by node and park state. -/
def takePark (e : ReqEntry) (s : State) : State :=
  if s.node.state = .fault then s.reply e .refusedState
  else if !stationArgOnly e.args then s.reply e .badArgs
  else
    match s.node.state with
    | .ready => if s.idleFor e then s.beginPark e else s.reply e .notParked
    | .run => if s.idleFor e then s.beginPark e else s.reply e .notParked
    | .parked => if s.node.park = .settled then s.reply e .done else s.reply e .notParked
    | _ => s.reply e .refusedState

/-- R208: the wake begins. -/
def State.beginWake (s : State) : State :=
  (s.withNode { s.node with park := .waking, parkTimer := Timer.ms 100 }).withDrv { s.drv with supply := true }

/-- R208: a request or broadcast held until the wake interrupts the entry, or begins the wake. -/
def State.interruptPark (s : State) : State :=
  match s.node.park with
  | .settled => s.beginWake
  | .entering => s.withNode { s.node with interrupted := true }
  | _ => s

/-- R208: a broadcast held until the wake, with the number of requests held before it; the list holds
four. -/
def State.holdBroadcast (b : Broadcast) (s : State) : State :=
  if s.node.heldBc.length < 4 then
    let before := (s.req.table.filter fun e => e.emptied && e.state == .claimed).length
    (s.withNode { s.node with heldBc := s.node.heldBc ++ [{ what := b, after := before }] }).interruptPark
  else s

/-- R207: the entry of the PARK under way. -/
def State.parkEntry (s : State) : Option ReqEntry :=
  s.req.table.find? fun e => e.fn == Fn.park && e.state == .acting

/-- R207: the PARK under way is replied. -/
def State.replyPark (res : Result) (s : State) : State :=
  match s.parkEntry with
  | some e => s.reply e res
  | none => s

/-- R207: the entry timer has expired. -/
def State.parkEntered (s : State) : State :=
  if s.node.interrupted then (s.replyPark .parkInterrupted).beginWake
  else (s.replyPark .done).withNode { s.node with park := .settled, parkTimer := none }

/-- R208: the wake timer has expired: the return state, park state NONE. -/
def State.wake (s : State) : State :=
  let back := if s.node.returnRun then NodeState.run else .ready
  (s.withNode { s.node with park := .notParked, parkTimer := none, interrupted := false,
                            heldBc := [] }).setNodeState back

end Sys2Proof.Machine
end

