-- ==== Sys2Proof/Machine/Contents.lean ====
section
/-! DEFINITION. The records of the queries (R25, R45, R156, R157, R177), each item in the order of its rule
and in the width of R197; what R197 leaves to choice is log 13. -/

namespace Sys2Proof.Machine

/-- A timer in ms, rounded up; absent when stopped. -/
def timerItem (t : Timer) : List Byte := optItem 2 (t.map fun us => ceilDiv us 1000)

/-- A share claim: class, kW. -/
def claimItem (c : Claim) : List Byte := code1 c.cls.code ++ uItem 2 c.kw

/-- R18: a tracker event record. -/
def trackerEventItem (e : TrackerEvent) : List Byte := code1 e.kind.code ++ sItem 3 e.amount ++ code1 e.seq

/-- R37: a lock event record. -/
def lockEventItem (e : LockEvent) : List Byte := code1 e.kind.code ++ uItem 2 e.travel ++ code1 e.seq

/-- R2: a joint's stack position, 1 at the bottom. -/
def Tracker.position (t : Tracker) (j : Nat) : Option Nat := (t.stack.reverse.idxOf? j).map (· + 1)

/-- R25: one joint of QUERY_KELLY. -/
def Tracker.jointItem (t : Tracker) (j : Nat) : List Byte :=
  let r := t.joint j
  flag1 r.opened ++ uItem 2 r.ext ++ optItem 1 (t.position j)

/-- R25: the QUERY_KELLY record. -/
def State.kellyRecord (s : State) : List Byte :=
  let t := s.trk
  code1 t.state.code
    ++ sItem 3 s.sens.payout ++ sItem 2 s.strokeInUse ++ sItem 3 s.E ++ sItem 3 s.D
    ++ sItem 3 t.ropeOffset ++ sItem 3 t.datumOffset
    ++ sItem 2 t.residue ++ (if t.state = .suspended then sItem 3 t.es else absentItem 3)
    ++ code1 s.jointCount ++ s.jointNumbers.flatMap t.jointItem
    ++ code1 t.stack.length ++ t.stack.reverse.flatMap code1
    ++ uItem 3 s.room ++ flag1 s.sens.home ++ trackerEventItem t.event

/-- R45: one joint of QUERY_LOCKS: state, pocket, pocket count. -/
def LockMonitor.jointItem (l : LockMonitor) (j : Nat) : List Byte :=
  let r := l.records.getD (j - 1) none
  flag1 r.isSome ++ optItem 1 r ++ uItem 1 (l.pocketCounts.getD (j - 1) 0)

/-- R45: the QUERY_LOCKS record. -/
def State.locksRecord (s : State) : List Byte :=
  let l := s.locks
  code1 s.jointCount ++ s.jointNumbers.flatMap l.jointItem
    ++ flag1 l.known ++ code1 l.dir.code ++ uItem 2 l.fwd ++ uItem 2 l.rev ++ flag1 l.watch
    ++ lockEventItem l.event
    ++ uItem 2 s.angleShown ++ sItem 2 s.sens.speed ++ sItem 2 s.sens.torque

/-- An item that is carried when a part of permission fails, else absent. -/
def failing (fails : Bool) (item : List Byte) : List Byte := if fails then item else absentItem item.length

/-- R177: the presence of a mirror. -/
def presenceOf (p : Option Peer) : Presence := (p.map (·.presence)).getD .absent

/-- R177: a mirror's presence and node state, each when it fails its part of R112. -/
def mirrorItems (p : Option Peer) : List Byte :=
  failing (!holdsAt p Peer.live) [Config.presenceCode (presenceOf p)]
    ++ failing (!holdsAt p Peer.showsRun) (optItem 1 (p.map (·.snap.nodeState)))

/-- R177: the numbers of the joints shown OPEN and not SEATED. -/
def State.openUnseated (s : State) : List Nat :=
  match (s.mirror .winch).bind Peer.winch? with
  | none => []
  | some w => w.openJoints.filter fun j => !s.seatedInMirror j

/-- R177: the parts of R112 that fail. -/
def State.permissionItems (s : State) : List Byte :=
  let w := (s.mirror .winch).bind Peer.winch?
  let r := s.lockMirror
  failing (s.node.state != .run) (code1 s.node.state.code)
    ++ mirrorItems (s.mirror .winch) ++ mirrorItems (s.mirror .rotary)
    ++ failing ((w.map (·.tracking)) != some Tracking.tracking.code) (optItem 1 (w.map (·.tracking)))
    ++ failing ((r.map (·.validity)) != some 1) (optItem 1 (r.map (·.validity)))
    ++ failing ((r.map (·.stall)) != some 0) (optItem 1 (r.map (·.stall)))
    ++ code1 s.openUnseated.length ++ s.openUnseated.flatMap code1

/-- R157, R177: drive state, mode, pending mode and current claim. The mode is carried as it is published, so a THRUST
that is withheld as THRUST_WITHHELD, 7 (DESIGN CHOICE, log 38). -/
def Drive.items (d : Drive) : List Byte :=
  code1 d.state.code ++ code1 d.modeCode ++ optItem 1 (d.pending.map Mode.code) ++ claimItem d.claim

/-- R177: the QUERY_CROWD record. -/
def State.crowdRecord (s : State) : List Byte :=
  sItem 2 s.sens.stroke ++ uItem 2 s.sens.force ++ sItem 2 s.sens.speed
    ++ uItem 2 s.node.setup.strokeMin ++ uItem 2 s.node.setup.strokeMax
    ++ s.drv.items ++ flag1 s.drv.withheld ++ flag1 s.permission
    ++ (if s.permission then [] else s.permissionItems)

/-! ### QUERY_PEER -/

/-- R162: the winch role part of a snapshot, item by item. A received J above 5 is carried as 5, the joints the
part has bytes for (DESIGN CHOICE, log 13). -/
def WinchPart.items (w : WinchPart) : List Byte :=
  sItem 3 w.payout ++ sItem 3 w.depth ++ sItem 3 w.ext ++ code1 w.tracking ++ sItem 2 w.residue
    ++ code1 (min w.j 5) ++ (w.exts.take w.j).flatMap (fun x => flag1 (x != 0) ++ uItem 2 x)
    ++ code1 w.stack.length ++ w.stack.flatMap code1
    ++ uItem 2 w.tension ++ sItem 2 w.speed ++ code1 w.slack
    ++ code1 w.evKind ++ sItem 3 w.evAmount ++ code1 w.evSeq

/-- R162: the crowd role part of a snapshot. -/
def CrowdPart.items (c : CrowdPart) : List Byte :=
  sItem 2 c.stroke ++ uItem 2 c.force ++ sItem 2 c.speed ++ code1 c.withheld

/-- R162: the rotary role part of a snapshot; a received J above 5 is carried as 5 (DESIGN CHOICE, log 13). -/
def RotaryPart.items (r : RotaryPart) : List Byte :=
  uItem 2 r.angle ++ sItem 2 r.speed ++ sItem 2 r.torque ++ code1 r.validity
    ++ code1 (min r.j 5)
    ++ (r.locks.take r.j).flatMap (fun k => flag1 (k != 0) ++ optItem 1 (if k = 0 then none else some (k - 1)))
    ++ code1 r.dir ++ code1 r.evKind ++ uItem 2 r.evTravel ++ code1 r.evSeq
    ++ code1 r.attempts ++ code1 r.stall ++ code1 r.opKind ++ code1 r.opPhase

/-- R162: a role part. -/
def RolePart.items : RolePart → List Byte
  | .winch w => w.items
  | .crowd c => c.items
  | .rotary r => r.items
  | .pack k => uItem 2 k
  | .empty => []

/-- R148: a snapshot, its fields in the order of R148. -/
def Snapshot.items (p : Snapshot) : List Byte :=
  code1 p.nodeState ++ code1 p.driveState ++ code1 p.driveMode ++ uItem 2 p.faults ++ code1 p.cls ++ uItem 2 p.kw
    ++ code1 p.cause ++ code1 p.prior ++ code1 p.errRun ++ code1 p.lastError ++ code1 p.tool ++ p.part.items

/-- R156: whether an entry is the serving entry of its role. -/
def State.serves (s : State) (p : Peer) : Bool :=
  match p.role with
  | .winch => (s.mirror .winch).map (·.station) == some p.station
  | .crowd => (s.mirror .crowd).map (·.station) == some p.station
  | .rotary => (s.mirror .rotary).map (·.station) == some p.station
  | .pack => s.share.source == some p.station
  | _ => false

/-- R156: the QUERY_PEER record of a station. -/
def State.peerRecord (s : State) (n : Nat) : List Byte :=
  match entryAt n s.peers with
  | some p =>
    code1 n ++ [Config.presenceCode p.presence] ++ uItem 2 p.age ++ code1 p.role.code ++ uItem 2 p.period
      ++ flag1 (s.serves p) ++ p.snap.items
  | none =>
    code1 n ++ [Config.presenceCode .absent] ++ uItem 2 65535 ++ absentItem 1 ++ absentItem 2 ++ flag1 false
      ++ absentItem 13

/-! ### QUERY_NODE -/

/-- R157: straps and state. The line speed is carried as its strap code in one byte, and the role of a node with
an invalid role strap as absent (DESIGN CHOICE, log 13). -/
def State.nodeItems (s : State) : List Byte :=
  let n := s.node
  code1 n.straps.station ++ optItem 1 (s.role.map Role.code) ++ flag1 n.straps.dflt ++ code1 n.straps.baud
    ++ code1 n.state.code ++ uItem 2 n.faults.code ++ uItem 2 n.pull.code
    ++ optItem 1 (n.lastStop.map (·.1)) ++ optItem 1 (n.lastStop.map (·.2))
    ++ code1 n.park.code ++ code1 n.cause.code ++ code1 n.prior.code ++ flag1 n.committed
    ++ (match n.failure with
      | some f => code1 f.code ++ code1 f.index ++ code1 f.cause.code
      | none => absentItem 3)

/-- R157: the drive. -/
def State.driveItems (s : State) : List Byte := s.drv.items ++ code1 s.drv.tool.code

/-- R157: the sharing figures. -/
def State.shareItems (s : State) : List Byte :=
  uItem 2 s.share.capacity ++ code1 (s.share.source.getD 0) ++ claimItem s.share.ownClaim ++ uItem 2 s.share.grant
    ++ flag1 s.share.starved

/-- R46: the targets by kind. -/
def OpSpec.items : OpSpec → List Byte
  | .lower d => sItem 3 d
  | .lift d => sItem 3 d
  | .extend j k x => code1 j ++ code1 k ++ uItem 2 x
  | .bore d f q v => sItem 3 d ++ uItem 2 f ++ uItem 2 q ++ uItem 2 v
  | .spinOff n => code1 n

/-- The earlier of two timers. -/
def earlier : Timer → Timer → Timer
  | none, t => t
  | t, none => t
  | some a, some b => some (min a b)

/-- R46: the earliest expiry among the timers of an entry. -/
def SubEntry.earliest (e : SubEntry) : Timer := earlier e.sendBound (earlier e.slow e.deadline)

/-- R46: the record's deadline. -/
def OpRecord.deadline (o : OpRecord) : Timer := (o.subs.map SubEntry.earliest).foldl earlier o.pubWait

/-- R47: an entry of the sub-request list. -/
def SubEntry.items (su : Setup) (e : SubEntry) : List Byte :=
  code1 e.what.fn ++ e.what.args su ++ flag1 (!e.what.continuing) ++ code1 e.what.target.code ++ code1 e.tag
    ++ flag1 e.sent ++ optItem 1 e.claimant ++ code1 e.claim.code
    ++ optItem 1 (e.reply.map (·.1)) ++ optItem 1 (e.reply.map (·.2)) ++ code1 e.startStatus.code
    ++ timerItem e.sendBound ++ timerItem e.slow ++ timerItem e.deadline

/-- R157: the operation record whole, or kind NONE. -/
def State.opItems (s : State) : List Byte :=
  match s.op with
  | none => code1 0
  | some o =>
    code1 o.spec.code ++ code1 o.requester ++ code1 o.tag ++ o.spec.items ++ code1 o.phase.code ++ code1 o.corr
      ++ timerItem o.deadline ++ code1 o.subs.length ++ o.subs.flatMap (SubEntry.items s.node.setup)

/-- R157: the request-table entries. -/
def State.tableItems (s : State) : List Byte :=
  code1 s.req.table.length
    ++ s.req.table.flatMap fun e => code1 e.requester ++ code1 e.tag ++ code1 e.fn ++ code1 e.state.code

/-- R157: publication and line. -/
def State.lineItems (s : State) : List Byte :=
  uItem 2 s.declaredPeriod ++ timerItem s.pub.timer ++ flag1 s.publishQueued
    ++ code1 s.line.state.code ++ code1 s.line.errRun ++ code1 s.line.goodRun ++ code1 s.line.lastError.code

/-- R157: the QUERY_NODE record. -/
def State.nodeRecord (s : State) : List Byte :=
  s.nodeItems ++ s.driveItems ++ s.shareItems ++ s.opItems ++ s.tableItems ++ s.lineItems

end Sys2Proof.Machine
end

