-- ==== Sys2Proof/Machine/Requests.lean ====
section
/-! DEFINITION. The Request Unit (chapter 9): claiming (R168, R169), the check by node state (R171), the
functions that stand with no other block (R25, R45, R79, R93, R156, R157, R177), requests and broadcasts held
until the wake (R208), and the default claimant's records (R180 to R183). -/

namespace Sys2Proof.Machine

/-! ### Functions -/

/-- R79: WINCH_MOVE. -/
def takeWinchMove (e : ReqEntry) (s : State) : State :=
  match winchMode s.node.setup e.args with
  | none => s.reply e .badArgs
  | some m => s.takeDirect e m

/-- R79: CROWD_MOVE. -/
def takeCrowdMove (e : ReqEntry) (s : State) : State :=
  match crowdMode s.node.setup e.args with
  | none => s.reply e .badArgs
  | some m => s.takeDirect e m

/-- R79: ROTARY_MOVE. -/
def takeRotaryMove (e : ReqEntry) (s : State) : State :=
  match rotaryMode s.node.setup e.args with
  | none => s.reply e .badArgs
  | some m => s.takeDirect e m

/-- R40: LOCK. -/
def takeLock (e : ReqEntry) (s : State) : State :=
  if noArgs e.args then s.takeDirect e .lock else s.reply e .badArgs

/-- R43: RELEASE. -/
def takeRelease (e : ReqEntry) (s : State) : State :=
  if noArgs e.args then s.takeDirect e .release else s.reply e .badArgs

/-- R93, R94: TOOL_OPEN. -/
def takeToolOpen (e : ReqEntry) (s : State) : State :=
  if !noArgs e.args then s.reply e .badArgs
  else if s.toolInterlock then (s.setDrv { s.drv with tool := .opened }).reply e .done
  else s.reply e .refusedInterlock

/-- R93: TOOL_CLOSE. -/
def takeToolClose (e : ReqEntry) (s : State) : State :=
  if !noArgs e.args then s.reply e .badArgs else (s.setDrv { s.drv with tool := .closed }).reply e .done

/-- R93: TOOL_HOLD. -/
def takeToolHold (e : ReqEntry) (s : State) : State :=
  if !noArgs e.args then s.reply e .badArgs else s.holdTool.reply e .done

/-- R25: QUERY_KELLY; arguments are not read (log 19). -/
def takeQueryKelly (e : ReqEntry) (s : State) : State := s.reply e .done .noReason s.kellyRecord

/-- R45: QUERY_LOCKS; arguments are not read (log 19). -/
def takeQueryLocks (e : ReqEntry) (s : State) : State := s.reply e .done .noReason s.locksRecord

/-- R177: QUERY_CROWD. -/
def takeQueryCrowd (e : ReqEntry) (s : State) : State :=
  if noArgs e.args then s.reply e .done .noReason s.crowdRecord else s.reply e .badArgs

/-- R156: QUERY_PEER. -/
def takeQueryPeer (e : ReqEntry) (s : State) : State :=
  let n := fieldU 1 1 e.args
  if e.args.length = 2 ∧ n ≤ 15 then s.reply e .done .noReason (s.peerRecord n) else s.reply e .badArgs

/-- R157: QUERY_NODE. -/
def takeQueryNode (e : ReqEntry) (s : State) : State :=
  if stationArgOnly e.args then s.reply e .done .noReason s.nodeRecord else s.reply e .badArgs

/-- R164, R172: the block that takes a function. -/
def destination (fn : Nat) : ReqEntry → State → State :=
  match fn with
  | 0x10 => takePark | 0x11 => takeResetNode | 0x12 => takeClearFault | 0x13 => takeQueryPeer
  | 0x14 => takeQueryNode | 0x20 => takeWinchMove | 0x21 => takeLower | 0x22 => takeLift
  | 0x23 => takeExtend | 0x24 => takeSetDatum | 0x25 => takeAssertPicture | 0x2F => takeQueryKelly
  | 0x30 => takeCrowdMove | 0x3F => takeQueryCrowd | 0x40 => takeRotaryMove | 0x41 => takeLock
  | 0x42 => takeRelease | 0x43 => takeBore | 0x44 => takeBoreStop | 0x45 => takeSpinOff
  | 0x4F => takeQueryLocks | 0xC0 => takeToolOpen | 0xC1 => takeToolClose | 0xC2 => takeToolHold
  | _ => fun e s => s.reply e .badArgs

/-! ### Claiming -/

/-- R168: the node claims a request it owns. -/
def State.claims (s : State) (stationAddressed : Bool) : Bool :=
  s.line.state == .normal && !s.silenced &&
    match s.node.state with
    | .listen => false
    | .fault => stationAddressed
    | _ => true

/-- R169: the CLAIM of a request and its table entry; BUSY with the table full. -/
def State.enterRequest (r : Request) (act : ReqEntry → State → State) (s : State) : State :=
  if !s.claims (isStationAddressed r.fn) then s
  else if s.req.table.length ≥ 4 then
    (s.offer (claimFrame .requestUnit r.requester r.tag r.fn 0)).offerAll
      (replyFrames .requestUnit r.requester r.tag r.fn .busy .noReason [])
  else
    let id := s.req.nextId
    let e : ReqEntry := { id := id, requester := r.requester, tag := r.tag, fn := r.fn, qual := r.qual,
                          args := r.args, state := .claimed }
    let owner := if r.fn = Fn.resetNode then Producer.resetClaim id else .requestUnit
    let s := s.offer (claimFrame owner r.requester r.tag r.fn 0)
    act e (s.withReq { s.req with table := s.req.table ++ [e], nextId := id + 1 })

/-- R171, step 2: what the node state does with a function. -/
inductive Gate where
  | taken | refused | held
  deriving DecidableEq, Repr

/-- R171, step 2: the table by function and node state. -/
def gate (st : NodeState) (fn : Nat) : Gate :=
  if isQuery fn || fn == Fn.resetNode then .taken
  else if fn == Fn.park || fn == Fn.clearFault then (if st = .fault then .refused else .taken)
  else
    match st with
    | .run => .taken
    | .parked => .held
    | .ready => if fn == Fn.setDatum || fn == Fn.assertPicture then .taken else .refused
    | .stopped => if fn == Fn.setDatum || fn == Fn.assertPicture then .taken else .refused
    | _ => .refused

/-- R171, steps 2 and 3: the check by node state, then the block of the function. -/
def State.gated (take : ReqEntry → State → State) (e : ReqEntry) (s : State) : State :=
  match gate s.node.state e.fn with
  | .taken => take e s
  | .refused => s.reply e .refusedState
  | .held => s.interruptPark

/-- R163, R169, R171: the handling of a REQUEST whose function is this node's. -/
def State.handleRequest (take : ReqEntry → State → State) (f : RxFrame) (s : State) : State :=
  match f.request? with
  | some r => s.enterRequest r (fun e s => s.gated take e)
  | none => s

/-- R166, R167, R171 step 1: a request owned but with a code, qualifier or length not valid here. -/
def State.refuseRequest (f : RxFrame) (s : State) : State :=
  match f.request? with
  | some r => s.enterRequest r (fun e s => s.reply e .badArgs)
  | none => s

/-! ### Broadcasts and the wake -/

/-- R175: a broadcast acted on. -/
def State.actBroadcast (b : Broadcast) (s : State) : State :=
  match b with
  | .start => s.started
  | .halt => s.halted

/-- R175, R208: a broadcast taken: held while the node is parked, else acted on. -/
def State.takeBroadcast (b : Broadcast) (s : State) : State :=
  if s.node.state = .parked then s.holdBroadcast b else s.actBroadcast b

/-- R208: the requests and broadcasts held, in order of arrival. -/
def heldOrder (bs : List HeldBroadcast) (es : List ReqEntry) : List (HeldBroadcast ⊕ ReqEntry) :=
  es.zipIdx.flatMap (fun (e, i) => (bs.filter fun b => b.after == i).map Sum.inl ++ [Sum.inr e])
    ++ (bs.filter fun b => decide (es.length ≤ b.after)).map Sum.inl

/-- R171, R208: one held item taken against the node state as it then stands. -/
def State.takeHeld (item : HeldBroadcast ⊕ ReqEntry) (s : State) : State :=
  match item with
  | .inl b => s.actBroadcast b.what
  | .inr e => if (s.entryOf e.id).isSome then s.gated (destination e.fn) e else s

/-- R208: the wake completes and the held items are taken in order. -/
def State.wakeAndTake (s : State) : State :=
  let es := s.req.table.filter fun e => e.emptied && e.state == .claimed
  let items := heldOrder s.node.heldBc es
  items.foldl (fun s i => s.takeHeld i) s.wake

/-! ### The default claimant -/

/-- R180: the oldest record makes room. -/
def State.makeRoom (s : State) : State :=
  match s.req.defaults with
  | [] => s
  | r :: _ => if s.req.defaults.length ≥ 8 then (s.dropRecord r.id).withdraw (Producer.ofRecord r.id) else s

/-- What remains of a window of n bit times after a wait. -/
def State.windowLeft (s : State) (n waited : Nat) : Timer := some (n * s.bitUs - waited)

/-- R180: a record is made for a REQUEST that the node does not own, when the REQUEST is handled and not at its last
stop bit, from which its windows count (DEDUCED from R163 and R191, log 34). -/
def State.watchRequest (f : RxFrame) (s : State) : State :=
  match f.request? with
  | none => s
  | some r =>
    if r.qual ≠ qualBroadcast ∧ s.node.straps.dflt ∧ s.claims true then
      let s := s.makeRoom
      let rec' : DefaultRec := { id := s.req.nextId, requester := r.requester, tag := r.tag, fn := r.fn,
                                 fast := s.windowLeft 400 f.waited, slow := s.windowLeft 1200 f.waited,
                                 status := .watching }
      s.withReq { s.req with defaults := s.req.defaults ++ [rec'], nextId := s.req.nextId + 1 }
    else s

/-- R182, R183: a frame settles the records of its requester and tag. A CLAIM whose kind lies outside the codes of R197
settles none (DESIGN CHOICE, log 40). -/
def State.settles (s : State) (f : RxFrame) : Option (Nat × Nat) :=
  match f.claim?, f.reply? with
  | some c, _ =>
    if c.kind = 0 ∨ (c.kind = 1 ∧ c.src < s.station) then some (c.requester, c.tag) else none
  | none, some r => if r.result ≠ Result.noOwner.code then some (r.requester, r.tag) else none
  | none, none => none

/-- R182: the records of a requester and tag are settled: removed, their queued frames withdrawn. -/
def State.settleRecords (f : RxFrame) (s : State) : State :=
  match s.settles f with
  | none => s
  | some (who, tag) =>
    let hit := s.req.defaults.filter fun r => r.requester == who && r.tag == tag
    hit.foldl (fun s r => (s.dropRecord r.id).withdraw (Producer.ofRecord r.id)) s

/-- R181: the fast window of a WATCHING record ends. -/
def State.fastEnds (r : DefaultRec) (s : State) : State :=
  let upd := fun x : DefaultRec => if x.id == r.id then { x with fast := none } else x
  let s := s.withReq { s.req with defaults := s.req.defaults.map upd }
  if r.status = .watching then
    let q := fun x : DefaultRec => if x.id == r.id then { x with status := .claimQueued } else x
    (s.withReq { s.req with defaults := s.req.defaults.map q }).offer
      (claimFrame (.defaultClaim r.id) r.requester r.tag r.fn 1)
  else s

/-- R181: the slow window of a record ends. -/
def State.slowEnds (n : Nat) (s : State) : State := (s.dropRecord n).withdraw (Producer.ofRecord n)

/-- R181: a DEFAULT CLAIM has completed: the NO_OWNER REPLY is queued, if the record still stands. -/
def State.defaultClaimSent (n : Nat) (s : State) : State :=
  match s.req.defaults.find? fun r => r.id == n with
  | none => s
  | some r =>
    let q := fun x : DefaultRec => if x.id == n then { x with status := .replyQueued } else x
    (s.withReq { s.req with defaults := s.req.defaults.map q }).offerAll
      (replyFrames (.defaultReply n) r.requester r.tag r.fn .noOwner .noReason [])

end Sys2Proof.Machine
end

