-- ==== Sys2Proof/Machine/Peers.lean ====
section
/-! DEFINITION. The Peer Table's acts: a publication accepted (R149), an aging step (R150), the own entry
filled (R137, R153), and the entry handed on to the blocks that act on it (R151; their order is log 10). -/

namespace Sys2Proof.Machine

/-- R154: an accepted publication that gives this node a role conflict. -/
def State.conflictsWith (s : State) (p : Peer) : Bool :=
  s.node.state != .listen && (some p.role == s.role) && decide (p.station < s.station)

/-- R154: the role comparison at an acceptance. -/
def State.compareRole (accepted : Option Nat) (s : State) : State :=
  match accepted.bind fun n => entryAt n s.peers with
  | some p => if s.conflictsWith p then s.roleConflict else s
  | none => s

/-- R151: the winch node's tracker takes the mirrors, the operation its loss of tracking, and the winch
drive the hand-on. -/
def State.trackerTakes (before : State) (s : State) : State :=
  if s.role = some .winch then
    State.winchHandOn before false (State.trackLossNoted before (State.trackMirrors before s))
  else s

/-- R151: an entry handed on; `accepted` is the station of an accepted publication, none at an aging step. -/
def State.handOn (before : State) (accepted : Option Nat) (s : State) : State :=
  let s := (s.recompute).compareRole accepted
  let s := State.trackerTakes before s
  let s := (s.judgeWithheld).judgeTool
  State.opHandOn before accepted s

/-- R149: the entry that an accepted publication makes. -/
def acceptedPeer (station : Nat) (p : Publication) : Peer :=
  { station := station, presence := .fresh, role := p.role, period := p.period, age := 0, snap := p.snap }

/-- R149: the publication that a frame brings, when the Peer Table accepts it. -/
def State.acceptable (s : State) (f : RxFrame) : Option Publication :=
  let n := f.src.toNat
  if 1 ≤ n ∧ n ≤ 15 ∧ n ≠ s.station then readPublication f.payload else none

/-- R149, R151: a PUBLISH accepted and handed on, or discarded. -/
def State.takePublication (f : RxFrame) (s : State) : State :=
  match s.acceptable f with
  | none => s
  | some p =>
    let n := f.src.toNat
    State.handOn s (some n) (s.withPeers (putPeer (acceptedPeer n p) s.peers))

/-- R150: the age of a FRESH or AGED entry has passed the threshold of its presence. -/
def Peer.outgrown (mult : Nat) (p : Peer) : Bool :=
  match p.presence with
  | .fresh => decide (p.age > 2 * p.period)
  | .aged => decide (p.age > mult * p.period)
  | _ => false

/-- R150: the entry after its aging step. -/
def Peer.aged (p : Peer) : Peer :=
  match p.presence with
  | .fresh => { p with presence := .aged }
  | .aged => { p with presence := .lost }
  | _ => p

/-- R150, R151: an aging step of an entry whose age has passed its threshold, handed on. It does not occur for an
entry that an acceptance has made FRESH with age 0 before it. -/
def State.agingStep (n : Nat) (s : State) : State :=
  match entryAt n s.peers with
  | some p =>
    if p.outgrown s.node.setup.lostMult then State.handOn s none (s.withPeers (putPeer p.aged s.peers)) else s
  | none => s

/-- R137, R153: the own entry filled from a completed PUBLISH, and the own published claim with it. -/
def State.fillOwnEntry (payload : List Byte) (s : State) : State :=
  match readPublication payload with
  | some p =>
    let own := acceptedPeer s.station p
    let s := s.withPeers (putPeer own s.peers)
    s.withShare { s.share with ownClaim := own.claim }
  | none => s

/-- R137, R159, R142, R69: an own PUBLISH has completed. -/
def State.published (n : Nat) (payload : List Byte) (s : State) : State :=
  let s := s.fillOwnEntry payload
  let s := if s.silenced then s else s.startPeriodic
  (s.recompute).opPublished n

end Sys2Proof.Machine
end

