-- ==== Sys2Proof/Machine/Line.lean ====
section
/-! DEFINITION. The Line Port (chapter 10): the receiver (R186, R187, R189), the line state (R190), the
holding queue (R191), and a transmission's start, completion and loss (R192, R194, R196). -/

namespace Sys2Proof.Machine

/-! ### Receiver -/

/-- R185: the Line Port receives. -/
def State.receives (s : State) : Bool := s.node.straps.baud != 3

/-- The receiver with its shifter, the line having just returned to recessive. -/
def State.withRx (s : State) (rx : RxState) (chars : List Byte) : State :=
  s.withLine { s.line with rx := rx, chars := chars, quiet := 0 }

/-- R189, R190: a count that saturates at 255. -/
def count255 (n : Nat) : Nat := min (n + 1) 255

/-- R180, R190: LISTEN_ONLY, in which no default record is kept. -/
def State.listenOnly (s : State) : State := (s.withLine { s.line with state := .listenOnly }).dropRecords

/-- R189, R190: a receive error. -/
def State.receiveError (k : LineError) (s : State) : State :=
  let n := count255 s.line.errRun
  let s := s.withLine { s.line with errRun := n, goodRun := 0, lastError := k }
  if n = 16 ∧ s.line.state = .normal then s.listenOnly else s

/-- R189, R190: a good frame. -/
def State.goodFrame (s : State) : State :=
  let n := count255 s.line.goodRun
  let st := if n = 8 ∧ s.line.state = .listenOnly then .normal else s.line.state
  s.withLine { s.line with errRun := 0, goodRun := n, state := st }

/-- R187, R189: the character would be a LEN above 48. -/
def State.lengthBad (s : State) (data : Byte) : Bool :=
  s.line.rx == .inFrame && s.line.chars.length == 2 && decide (data.toNat > 48)

/-- R187: the character is the last of its frame. -/
def State.lastCharacter (s : State) : Bool := frameLength s.line.chars == some (s.line.chars.length + 1)

/-- R187, R189: a character without error. -/
def State.takeCharacter (data : Byte) (s : State) : State :=
  match s.line.rx with
  | .skipping => s.withRx .skipping []
  | .hunting => s.withRx .inFrame [data]
  | .inFrame =>
    if s.lengthBad data then (s.withRx .skipping []).receiveError .length
    else if s.lastCharacter then s
    else s.withRx .inFrame (s.line.chars ++ [data])

/-- R186, R189: the error of a character as sampled. -/
def State.characterFault (s : State) (data : Byte) (parity stop : Bool) : Option LineError :=
  if !parityOdd data parity then some .parity
  else if !stop then some .framing
  else if s.lengthBad data then some .length
  else none

/-- R186, R189: a character with an error. -/
def State.takeBadCharacter (data : Byte) (parity stop : Bool) (s : State) : State :=
  match s.characterFault data parity stop with
  | none => s
  | some k =>
    if s.line.rx = .skipping then s.withRx .skipping [] else (s.withRx .skipping []).receiveError k

/-- R191: a good frame of another station stored, or discarded by OVERRUN. -/
def State.storeFrame (f : RxFrame) (s : State) : State :=
  if s.line.hold.length < 2 then s.withLine { s.line with hold := s.line.hold ++ [f] }
  else s.withLine { s.line with lastError := .overrun }

/-- R155: the frame carries the node's own station number. -/
def State.ownSource (s : State) (f : RxFrame) : Bool := f.src.toNat == s.station && s.station != 0

/-- R188, R191, R182, R155: a frame of another station has completed. -/
def State.frameDone (chars : List Byte) (s : State) : State :=
  let s := s.withRx .hunting []
  match frameOfChars chars with
  | none => s.receiveError .crc
  | some f =>
    let s := s.goodFrame
    if s.ownSource f then s.duplicateStation else (s.settleRecords f).storeFrame f

/-- R191: the oldest frame leaves the holding queue when its handling completes. -/
def State.dropHeld (s : State) : State := s.withLine { s.line with hold := s.line.hold.tail }

/-! ### Transmission -/

/-- R192: the line has been recessive for n more bit times. -/
def State.quietFor (n : Nat) (s : State) : State := s.withLine { s.line with quiet := s.line.quiet + n }

/-- R185, R192: the node can start a transmission at all. -/
def State.mayTransmit (s : State) : Bool :=
  s.node.state != .listen && !s.silenced && s.line.state == .normal && s.node.straps.station != 0
    && s.node.straps.baud != 3

/-- R187: the characters of a frame as this node sends it: the code of its kind, the node's station number as SRC, LEN,
the payload and the CRC (R188). -/
def State.sentChars (s : State) (f : TxFrame) : List Byte :=
  frameChars (BitVec.ofNat 8 f.kind.code) (BitVec.ofNat 8 s.station) f.payload

/-- R192: the head frame starts once its quiet gap has passed. -/
def State.startFrame (s : State) : State :=
  match s.line.queue, s.line.shifter, s.line.rx with
  | f :: rest, none, .hunting =>
    if s.mayTransmit ∧ f.kind.gap ≤ s.line.quiet then
      s.withLine { s.line with queue := rest, shifter := some f }
    else s
  | _, _, _ => s

/-- R196: the shifter is empty. -/
def State.clearShifter (s : State) : State := s.withLine { s.line with shifter := none }

/-- R50: the sub-request of a frame whose send bound ran out in the shifter. -/
def State.sendRanOut (s : State) (f : TxFrame) : Bool :=
  match f.owner with
  | .subRequest tag _ => ((s.subWith tag).map (·.sendExpired)).getD false
  | _ => false

/-- R196, R50: a frame lost its attempt: discarded when withdrawn, or when its send bound had run out, which
ends the operation; else it returns to the head of its class. -/
def State.loseFrame (s : State) : State :=
  match s.line.shifter with
  | none => s
  | some f =>
    let ranOut := s.sendRanOut f
    let s := s.clearShifter
    if f.withdrawn then s
    else if ranOut then s.endOp .failed .timeout
    else s.returnFrame f

/-- R194: a read-back failure: LINE_FAULT; the node claims nothing, so no default record is kept (R180). -/
def State.readBackFails (s : State) : State :=
  match s.line.shifter with
  | none => s
  | some _ =>
    let s := (s.withLine { s.line with state := .lineFault }).dropRecords
    ((s.setFault .lineFault).signal).loseFrame

/-- R191: a completed frame reported to its producer. -/
def State.report (f : TxFrame) (s : State) : State :=
  match f.owner with
  | .publication n => s.published n f.payload
  | .subRequest tag role => if f.withdrawn then s.queueWindDown role else s.subSent tag
  | .defaultClaim n => s.defaultClaimSent n
  | .defaultReply n => s.dropRecord n
  | _ => s

/-- R191, R196: the node's own frame has completed: it counts as a good frame and is reported. -/
def State.frameSent (s : State) : State :=
  match s.line.shifter with
  | none => s
  | some f => (((s.withRx .hunting []).clearShifter).goodFrame).report f

end Sys2Proof.Machine
end

