-- ==== Sys2Proof/Machine/Outputs.lean ====
section
/-! DEFINITION. The outputs of the part as functions of its state (log 6): brake, valves, supply, tool and
stop line (R77, R93, R205), the bits of the frame being sent (R186, R187), the power limit and speed cap (R91, R92), the mode maximum (R91, R100, R120), the
force and torque limits (R107, R113, R115, R120) and the payout gates (R98, R103). -/

namespace Sys2Proof.Machine

/-- R77: the brake output is set. -/
def Drive.brakeSet (d : Drive) : Bool := d.state == .held || d.state == .setting

/-- R77: the valve drives may be driven: ACTIVE with the valve supply on; else they are neutral. -/
def Drive.valvesDriven (d : Drive) : Bool := d.state == .active && d.supply

/-- R93: the open side of the AUX tool output is driven. -/
def Drive.openSide (d : Drive) : Bool := d.tool == .opened

/-- R93: the close side of the AUX tool output is driven. -/
def Drive.closeSide (d : Drive) : Bool := d.tool == .closed

/-- R205: the node drives the stop line asserted. -/
def State.drivesStopLine (s : State) : Bool := s.node.pull.pulls

/-- R186, R187: the bits of the frame in the shifter, in the order in which the node sends them, its characters back to
back; with an empty shifter the node sends nothing. How many of them have gone out is not in the state (log 27). -/
def State.lineBits (s : State) : List Bool :=
  match s.line.shifter with
  | some f => (s.sentChars f).flatMap characterBits
  | none => []

/-- R91: the power limit L of an ACTIVE drive. -/
def State.powerLimit (s : State) : Nat := min s.drv.claim.kw s.share.grant

/-- R91: the speed cap of an ACTIVE drive; none where no cap applies. -/
def State.speedCap (s : State) : Option Nat :=
  let su := s.node.setup
  let l := s.powerLimit
  let rope := some (l * 1000 / max s.sens.tension su.slackTension)
  let push := some (l * 1000 / max 1 (max s.sens.force su.feedForce))
  let twist := some (l * 955 / max s.sens.torque.natAbs su.seatTorque)
  if s.drv.state ≠ .active then none
  else
    match s.drv.mode with
    | .hold => none
    | .haul _ => rope
    | .pay _ => rope
    | .float _ => rope
    | .feed _ _ => push
    | .pull _ _ => push
    | .thrust _ => some (l * 1000 / max s.sens.force 1)
    | .turn _ => twist
    | .lock => twist
    | .release => twist
    | .bore _ _ => twist
    | .spin _ => twist

/-- R91, R100, R120: the mode maximum. -/
def State.modeMaximum (s : State) : Nat :=
  let su := s.node.setup
  match s.drv.mode with
  | .hold => 0
  | .haul v => s.haulMaximum v
  | .pay v => v
  | .float _ => su.ropeSpeedMax
  | .feed v _ => v.natAbs
  | .pull v _ => v
  | .thrust _ => su.crowdSpeedMax
  | .turn v => v.natAbs
  | .lock => su.lockSpeed
  | .release => su.lockSpeed
  | .bore v _ => if s.drv.recovery = .restarting then min su.lockSpeed v else v
  | .spin _ => su.spinSpeed

/-- R91: the most the drive lets the axis run. -/
def State.speedLimit (s : State) : Nat :=
  match s.speedCap with
  | some c => min c s.modeMaximum
  | none => 0

/-- R107, R113: the force limit of a crowd mode. -/
def State.forceLimit (s : State) : Option Nat :=
  let su := s.node.setup
  match s.drv.mode with
  | .feed _ _ => some su.feedForce
  | .pull _ _ => some su.thrustMax
  | .thrust f => some (if s.drv.withheld then min f su.feedForce else f)
  | _ => none

/-- R115, R120: the torque limit of a turning mode. -/
def State.torqueLimit (s : State) : Option Nat :=
  let su := s.node.setup
  match s.drv.mode with
  | .turn _ => some su.torqueMax
  | .lock => some (min (2 * su.seatTorque) su.torqueMax)
  | .release => some su.torqueMax
  | .bore _ q => some (boreTorque su.seatTorque q s.drv.recovery)
  | .spin _ => some su.torqueMax
  | _ => none

/-- R98, R103: the gates of payout. PAY and FLOAT pay out nothing while the slack watch is not CLEAR, and only
while TRACKING with D below MAX_DEPTH. -/
def State.payoutOpen (s : State) : Bool :=
  s.trk.state == .tracking && decide (s.D < s.node.setup.maxDepth) && s.drv.slack == .clear

/-- What an ACTIVE drive asks of its axis: at rest, in the positive direction (rope out, crowd down, shaft
forward), or in the negative one. -/
inductive Motion where
  | rest | positive | negative
  deriving DecidableEq, Repr

/-- The motion of a signed speed. -/
def motionOf (v : Int) : Motion := if 0 < v then .positive else if v < 0 then .negative else .rest

/-- R102, R103: FLOAT by the tension and its band. -/
def State.floatMotion (s : State) (t : Nat) : Motion :=
  if s.sens.tension > t + t / 10 then (if s.payoutOpen then .positive else .rest)
  else if s.sens.tension < t - t / 10 then .negative
  else .rest

/-- The valve drives' direction (R98 to R103, R108 to R111, R116 to R131); neutral outside ACTIVE and with the
valve supply off (R77). -/
def State.motion (s : State) : Motion :=
  if !s.drv.valvesDriven then .rest
  else
    match s.drv.mode with
    | .hold => .rest
    | .haul _ => .negative
    | .pay _ => if s.payoutOpen then .positive else .rest
    | .float t => s.floatMotion t
    | .feed v _ => motionOf v
    | .pull _ _ => .negative
    | .thrust _ => .positive
    | .turn v => motionOf v
    | .lock => .positive
    | .release => .negative
    | .bore _ _ => if s.drv.reversing then .negative else .positive
    | .spin _ => if s.drv.reversing then .negative else .positive

end Sys2Proof.Machine
end

