-- ==== Sys2Proof/Machine/Time.lean ====
section
/-! DEFINITION. The node's clock (log 2): a step on an empty queue is one bit time. It runs the timers and
windows down, the ages up (R150), and puts the commands that have become due into the queue. -/

namespace Sys2Proof.Machine

/-- A timer after some microseconds. -/
def runDown (us : Nat) (t : Timer) : Timer := t.map fun n => n - us

/-- R150: an age grows by one at each millisecond and stays at 65535. -/
def Peer.older (ms : Nat) (p : Peer) : Peer := { p with age := min 65535 (p.age + ms) }

/-- An entry's timers after some microseconds. -/
def SubEntry.runDown (us : Nat) (e : SubEntry) : SubEntry :=
  { e with sendBound := Machine.runDown us e.sendBound, slow := Machine.runDown us e.slow,
           deadline := Machine.runDown us e.deadline }

/-- The record's timers after some microseconds. -/
def OpRecord.runDown (us : Nat) (o : OpRecord) : OpRecord :=
  { o with subs := o.subs.map (SubEntry.runDown us), pubWait := Machine.runDown us o.pubWait }

/-- A default record's windows after some microseconds. -/
def DefaultRec.runDown (us : Nat) (r : DefaultRec) : DefaultRec :=
  { r with fast := Machine.runDown us r.fast, slow := Machine.runDown us r.slow }

/-- The line after a bit time: the line's quiet grows while the node does not transmit (R192), and the held
frames wait (R178). -/
def LinePort.runDown (us : Nat) (l : LinePort) : LinePort :=
  { l with hold := l.hold.map (fun f => { f with waited := f.waited + us })
           quiet := if l.shifter.isNone then l.quiet + 1 else l.quiet }

/-- The node control timers after some microseconds. -/
def NodeCtl.runDown (us : Nat) (n : NodeCtl) : NodeCtl :=
  { n with listen := Machine.runDown us n.listen, parkTimer := Machine.runDown us n.parkTimer }

/-- The drive timers after some microseconds. -/
def Drive.runDown (us : Nat) (d : Drive) : Drive :=
  { d with timer := Machine.runDown us d.timer, slackTimer := Machine.runDown us d.slackTimer,
           stallTimer := Machine.runDown us d.stallTimer }

/-- The state after some microseconds. -/
def State.elapse (us : Nat) (s : State) : State :=
  let c := s.clockUs + us
  let s := (s.withClockUs (c % 1000)).withPeers (s.peers.map (Peer.older (c / 1000)))
  let s := ((s.withNode (s.node.runDown us)).withLine (s.line.runDown us)).withDrv (s.drv.runDown us)
  let s := s.withPub { s.pub with timer := runDown us s.pub.timer }
  let s := s.withReq { s.req with defaults := s.req.defaults.map (DefaultRec.runDown us) }
  s.withOp (s.op.map (OpRecord.runDown us))

/-- A timer has run out. -/
def expired (t : Timer) : Bool := t == some 0

/-- A command that is due when a timer has run out. -/
def dueIf (b : Bool) (c : Instr) : List Instr := if b then [c] else []

/-- R78: the expiry of the brake timer. -/
def Drive.brakeDue (d : Drive) : List Instr :=
  dueIf (expired d.timer && d.state == .releasing) .brakeReleaseExpiry
    ++ dueIf (expired d.timer && d.state == .setting) .brakeSetExpiry

/-- R47, R53, R54: the expiry of an entry's start or reply deadline. -/
def SubEntry.deadlineRow (e : SubEntry) : Instr :=
  if e.what.continuing then .startDeadlineExpiry e.tag else .replyDeadlineExpiry e.tag

/-- R50, R52 to R54: the expiries of an entry. -/
def SubEntry.due (e : SubEntry) : List Instr :=
  dueIf (expired e.sendBound) (.sendBoundExpiry e.tag) ++ dueIf (expired e.slow) (.subRequestSlowWindowEnd e.tag)
    ++ dueIf (expired e.deadline) e.deadlineRow

/-- R69: the expiries of the operation record. -/
def OpRecord.due (o : OpRecord) : List Instr :=
  o.subs.flatMap SubEntry.due ++ dueIf (expired o.pubWait) .publicationWaitExpiry

/-- R181: the window ends of a default record. -/
def DefaultRec.due (r : DefaultRec) : List Instr :=
  dueIf (expired r.fast) (.fastWindowEnd r.id) ++ dueIf (expired r.slow) (.defaultSlowWindowEnd r.id)

/-- R150: the aging step of an entry whose age has passed its threshold. -/
def Peer.due (mult : Nat) (p : Peer) : List Instr := dueIf (p.outgrown mult) (.agingStep p.station)

/-- R207: the expiry of the park timer. -/
def NodeCtl.parkDue (n : NodeCtl) : List Instr :=
  dueIf (expired n.parkTimer && n.park == .entering) .parkEntryTimerExpiry
    ++ dueIf (expired n.parkTimer && n.park == .waking) .wakeTimerExpiry

/-- R203, R205: the line goes asserted by the node's own pull, which the level it senses takes in (log 29). -/
def State.pullDue (s : State) : List Instr := dueIf (s.node.pull.pulls && !s.sens.stopLine) .stopLineAsserted

/-- The commands that are due, in the order of log 2. -/
def State.due (s : State) : List Instr :=
  dueIf (expired s.node.listen) .listenTimerExpiry ++ s.pullDue ++ s.drv.brakeDue
    ++ dueIf (expired s.drv.slackTimer) .slackTimerExpiry ++ dueIf (expired s.drv.stallTimer) .stallTimerExpiry
    ++ dueIf (expired s.pub.timer) .periodicTimerExpiry
    ++ s.peers.flatMap (Peer.due s.node.setup.lostMult)
    ++ ((s.op.map OpRecord.due).getD []) ++ s.req.defaults.flatMap DefaultRec.due ++ s.node.parkDue

/-- One bit time on an empty queue. -/
def State.tick (s : State) : State :=
  let t := s.elapse s.bitUs
  t.withPending t.due

end Sys2Proof.Machine
end

