-- ==== Sys2Proof/Machine/Events.lean ====
section
/-! DEFINITION. What the commands share: an event taken whole, which ends with its one publication (R160) and,
where a RESET_NODE can have become due, with its reset (R209); and the handling of the oldest held frame (R191). -/

namespace Sys2Proof.Machine

/-- A command's outcome; no command faults. -/
abbrev Out := Host.Outcome State Fault Refusal

/-- An event taken when it occurs in the state; a command whose event cannot occur changes nothing (log 1). -/
def taken (occurs : Bool) (act : State → State) (s : State) : Out := .next (if occurs then (act s).finish else s)

/-- The same for the events in which a RESET_NODE can become due (R209). -/
def takenOnLine (occurs : Bool) (act : State → State) (s : State) : Out :=
  .next (if occurs then (act s).conclude else s)

/-- R191: the oldest held frame, when its handling at this node is the row. -/
def State.headIs (s : State) (row : Instr) : Option RxFrame :=
  match s.line.hold with
  | [] => none
  | f :: _ => if s.rowOf f = row then some f else none

/-- R191: the handling of the oldest frame completes: its slot is free and the blocks act. -/
def handled (row : Instr) (act : RxFrame → State → State) (s : State) : Out :=
  match s.headIs row with
  | some f => .next ((act f s.dropHeld).finish)
  | none => .next s

end Sys2Proof.Machine
end

