-- ==== Sys2Proof/Machine/Resets.lean ====
section
/-! DEFINITION. The commands POWER_ON to STOP_LINE_RELEASED: resets (R209), the end of listening (R200) and
the stop line (R203, R85, R174). -/

namespace Sys2Proof.Machine

/-- R209: POWER_ON. -/
def execPowerOn (pins : Straps) (s : State) : Out := .next (s.resetWith .powerOn .unknown pins)

/-- R209: SUPPLY_DIP. -/
def execSupplyDip (pins : Straps) (s : State) : Out := .next (s.resetWith .supplyDip .unknown pins)

/-- R209: RESET_LINE. -/
def execResetLine (pins : Straps) (s : State) : Out := .next (s.resetWith .resetLine (priorOf s.node.state) pins)

/-- R200, R154: LISTEN_TIMER_EXPIRY. -/
def execListenTimerExpiry (s : State) : Out :=
  taken (s.node.state == .listen && s.node.listen.isSome) State.leaveListen s

/-- R203: STOP_LINE_ASSERTED. -/
def execStopLineAsserted (s : State) : Out :=
  taken (!s.sens.stopLine) (fun s => (s.withSens { s.sens with stopLine := true }).stopAsserted) s

/-- R203: what STOP_LINE_RELEASED does: a STOPPED node returns to READY. -/
def State.stopReleased (s : State) : State := if s.node.state = .stopped then s.setNodeState .ready else s

/-- R203: STOP_LINE_RELEASED; the level that a node senses takes in its own pull, so it cannot go released
while the node drives the line asserted (R205, log 29). -/
def execStopLineReleased (s : State) : Out :=
  taken (s.sens.stopLine && !s.node.pull.pulls) (fun s => (s.withSens { s.sens with stopLine := false }).stopReleased) s

end Sys2Proof.Machine
end

