-- ==== Sys2Proof/Machine/Inputs.lean ====
section
/-! DEFINITION. The commands ROPE_EVENT to TORQUE_EVENT: changes of the sensor readings, each at a node of the
role that has the sensor (00_scope.md 0.6). -/

namespace Sys2Proof.Machine

/-- R3, R6, R64, R65, R95, R98, R101: a rope event. D is compared with the target of LOWER or LIFT before the
checks of the own drive, so an event that brings both ends the operation DONE (DESIGN CHOICE, log 32). -/
def State.ropeMoved (p : Int) (s : State) : State :=
  let t := State.trackRope s (s.withSens { s.sens with payout := p })
  (State.winchHandOn s true t.opDepth).judgeTool

/-- R3: ROPE_EVENT. -/
def execRopeEvent (p : Int) (s : State) : Out :=
  taken (s.role == some .winch && p != s.sens.payout) (State.ropeMoved p) s

/-- R104: the slack watch at a tension event. -/
def State.judgeSlack (s : State) : State :=
  let d := s.drv
  if s.sens.tension < s.node.setup.slackTension then
    if s.node.state = .run ∧ d.slack = .clear then
      s.setDrv { d with slack := .timing, slackTimer := Timer.ms s.node.setup.slackTime }
    else s
  else if d.slack = .timing then s.setDrv { d with slack := .clear, slackTimer := none }
  else s

/-- R104: ROPE_TENSION_EVENT. -/
def execRopeTensionEvent (t : Nat) (s : State) : Out :=
  taken (s.role == some .winch && t != s.sens.tension)
    (fun s => (s.withSens { s.sens with tension := t }).judgeSlack) s

/-- R15 to R17, R95, R98, R101: kelly home becomes active. -/
def State.cameHome (s : State) : State :=
  let t := State.trackLossNoted s (s.withSens { s.sens with home := true }).trackHome
  ((State.winchHandOn s false t).checkHome).judgeTool

/-- R15: KELLY_HOME_ACTIVE. -/
def execKellyHomeActive (s : State) : Out := taken (s.role == some .winch && !s.sens.home) State.cameHome s

/-- R15: KELLY_HOME_INACTIVE. -/
def execKellyHomeInactive (s : State) : Out :=
  taken (s.role == some .winch && s.sens.home) (fun s => s.withSens { s.sens with home := false }) s

/-- R29: the direction becomes REST when the speed of a rotary axis becomes 0. -/
def State.restAt (v : Int) (s : State) : State :=
  if v = 0 ∧ s.role = some .rotary then s.withLocks { s.locks with dir := .rest } else s

/-- R29, R95, R121: AXIS_SPEED_EVENT. -/
def execAxisSpeedEvent (v : Int) (s : State) : Out :=
  taken (v != s.sens.speed)
    (fun s => (((s.withSens { s.sens with speed := v }).restAt v).judgeStall).judgeTool) s

/-- R107, R110, R111: STROKE_EVENT. -/
def execStrokeEvent (t : Int) (s : State) : Out :=
  taken (s.role == some .crowd && t != s.sens.stroke)
    (fun s => (s.withSens { s.sens with stroke := t }).checkStroke) s

/-- R92, R107: CROWD_FORCE_EVENT. -/
def execCrowdForceEvent (f : Nat) (s : State) : Out :=
  taken (s.role == some .crowd && f != s.sens.force) (fun s => s.withSens { s.sens with force := f }) s

/-- R29, R115: ANGLE_EVENT. -/
def execAngleEvent (change : Int) (s : State) : Out :=
  taken (s.role == some .rotary && change != 0) (State.turn change) s

/-- R32, R115, R121: TORQUE_EVENT. -/
def execTorqueEvent (q : Int) (s : State) : Out :=
  taken (s.role == some .rotary && q != s.sens.torque)
    (fun s => (s.withSens { s.sens with torque := q }).twisted) s

end Sys2Proof.Machine
end

