-- ==== Sys2Proof/Machine/Timers.lean ====
section
/-! DEFINITION. The commands BRAKE_RELEASE_EXPIRY to WAKE_TIMER_EXPIRY: timers and windows. An expiry is taken
whenever its timer runs (log 3), an aging step only once the age has passed its threshold (R150, R151). -/

namespace Sys2Proof.Machine

/-- R78: the release timer has expired. -/
def State.brakeReleased (s : State) : State := (s.setDrv { s.drv with state := .active, timer := none }).enterActive

/-- R78: BRAKE_RELEASE_EXPIRY. -/
def execBrakeReleaseExpiry (s : State) : Out :=
  taken (s.drv.state == .releasing && s.drv.timer.isSome) State.brakeReleased s

/-- R82: the HOLD request that waited for the set is replied DONE. -/
def State.replyHold (s : State) : State :=
  match s.drv.sourceEntry with
  | some id => (s.withDrv { s.drv with source := none }).replyTo id .done
  | none => s

/-- R78, R82: the set timer has expired: HELD, or RELEASING toward the pending mode. -/
def State.brakeIsSet (s : State) : State :=
  match s.drv.pending with
  | some m =>
    (s.setDrv { s.drv with state := .releasing, mode := m, pending := none,
                           timer := Timer.ms s.node.setup.brakeRelease }).judgeWithheld
  | none => (s.setDrv { s.drv with state := .held, timer := none }).replyHold

/-- R78: BRAKE_SET_EXPIRY. -/
def execBrakeSetExpiry (s : State) : Out :=
  taken (s.drv.state == .setting && s.drv.timer.isSome) State.brakeIsSet s

/-- R105: SLACK_ROPE is raised. -/
def State.slackRaised (s : State) : State :=
  (s.setDrv { s.drv with slack := .raised, slackTimer := none }).raiseStop .slackRope

/-- R105: SLACK_TIMER_EXPIRY. -/
def execSlackTimerExpiry (s : State) : Out :=
  taken (s.drv.slack == .timing && s.drv.slackTimer.isSome) State.slackRaised s

/-- R121: the stall timer has expired. -/
def State.stallExpired (s : State) : State :=
  (s.setDrv { s.drv with stall := .clear, stallTimer := none }).stallTaken

/-- R121: STALL_TIMER_EXPIRY. -/
def execStallTimerExpiry (s : State) : Out :=
  taken (s.drv.stall == .timing && s.drv.stallTimer.isSome) State.stallExpired s

/-- R159: PERIODIC_TIMER_EXPIRY. -/
def execPeriodicTimerExpiry (s : State) : Out := taken s.pub.timer.isSome (fun s => (s.startPeriodic).signal) s

/-- R150, R151: AGING_STEP. -/
def execAgingStep (station : Nat) (s : State) : Out := taken true (State.agingStep station) s

/-- An entry's timer runs. -/
def State.subRuns (s : State) (tag : Nat) (timer : SubEntry → Timer) : Bool :=
  ((s.subWith tag).map fun e => (timer e).isSome).getD false

/-- R50: the REQUEST of a tag stands in the shifter. -/
def State.requestInShifter (s : State) (tag : Nat) : Bool :=
  s.line.shifter.any fun f => match f.owner with
    | .subRequest t _ => t == tag
    | _ => false

/-- R50: the send bound has expired. -/
def State.sendBoundOut (tag : Nat) (s : State) : State :=
  if s.requestInShifter tag then s.mapSub tag fun e => { e with sendBound := none, sendExpired := true }
  else s.endOp .failed .timeout

/-- R50: SEND_BOUND_EXPIRY. -/
def execSendBoundExpiry (tag : Nat) (s : State) : Out :=
  taken (s.subRuns tag (·.sendBound)) (State.sendBoundOut tag) s

/-- R52: the slow window of an entry has ended. -/
def State.slowWindowOut (tag : Nat) (s : State) : State :=
  match (s.subWith tag).map SubEntry.claim with
  | some .unclaimed => s.endOp .failed .noClaim
  | some .default => s.endOp .failed .noOwner
  | _ => s.mapSub tag fun e => { e with slow := none }

/-- R52: SUB_REQUEST_SLOW_WINDOW_END. -/
def execSubRequestSlowWindowEnd (tag : Nat) (s : State) : Out :=
  taken (s.subRuns tag (·.slow)) (State.slowWindowOut tag) s

/-- R53: the start deadline of a WAITING entry runs. -/
def State.startDeadlineRuns (s : State) (tag : Nat) : Bool :=
  ((s.subWith tag).map fun e =>
    e.what.continuing && e.deadline.isSome && e.startStatus == .waiting).getD false

/-- R53: START_DEADLINE_EXPIRY. -/
def execStartDeadlineExpiry (tag : Nat) (s : State) : Out :=
  taken (s.startDeadlineRuns tag) (State.endOp .failed .timeout) s

/-- R54: the reply deadline of a TURN entry runs. -/
def State.replyDeadlineRuns (s : State) (tag : Nat) : Bool :=
  ((s.subWith tag).map fun e => !e.what.continuing && e.deadline.isSome).getD false

/-- R54: REPLY_DEADLINE_EXPIRY. -/
def execReplyDeadlineExpiry (tag : Nat) (s : State) : Out :=
  taken (s.replyDeadlineRuns tag) (State.endOp .failed .timeout) s

/-- R69: the publication wait runs. -/
def State.publicationWaitRuns (s : State) : Bool := (s.op.map fun o => o.pubWait.isSome).getD false

/-- R69: PUBLICATION_WAIT_EXPIRY. -/
def execPublicationWaitExpiry (s : State) : Out :=
  taken s.publicationWaitRuns (State.endOp .failed .timeout) s

/-- R180: the record with a number. -/
def State.recordOf (s : State) (n : Nat) : Option DefaultRec := s.req.defaults.find? fun r => r.id == n

/-- R181: the fast window of a record has ended. -/
def State.fastWindowOut (n : Nat) (s : State) : State :=
  match s.recordOf n with
  | some r => s.fastEnds r
  | none => s

/-- R181: FAST_WINDOW_END. -/
def execFastWindowEnd (n : Nat) (s : State) : Out :=
  taken (((s.recordOf n).map fun r => r.fast.isSome).getD false) (State.fastWindowOut n) s

/-- R181: DEFAULT_SLOW_WINDOW_END. -/
def execDefaultSlowWindowEnd (n : Nat) (s : State) : Out :=
  taken (((s.recordOf n).map fun r => r.slow.isSome).getD false) (State.slowEnds n) s

/-- R207: PARK_ENTRY_TIMER_EXPIRY. -/
def execParkEntryTimerExpiry (s : State) : Out :=
  taken (s.node.park == .entering && s.node.parkTimer.isSome) State.parkEntered s

/-- R208: WAKE_TIMER_EXPIRY. -/
def execWakeTimerExpiry (s : State) : Out :=
  taken (s.node.park == .waking && s.node.parkTimer.isSome) State.wakeAndTake s

end Sys2Proof.Machine
end

