-- ==== Sys2Proof/Machine/LineEvents.lean ====
section
/-! DEFINITION. The commands CHARACTER_ERROR to TX_COMPLETE, CHARACTER_RECEIVED and NOISE_PULSE: the rig line
(chapter 10). -/

namespace Sys2Proof.Machine

/-- R186, R189: CHARACTER_ERROR. -/
def execCharacterError (data : Byte) (parity stop : Bool) (s : State) : Out :=
  takenOnLine s.receives (State.takeBadCharacter data parity stop) s

/-- R187, R189: CHARACTER_RECEIVED. -/
def execCharacterReceived (data : Byte) (s : State) : Out := takenOnLine s.receives (State.takeCharacter data) s

/-- R189: the receiver after a truncated frame. -/
def State.truncate (bits : Nat) (s : State) : State :=
  let s := s.quietFor bits
  (s.withLine { s.line with rx := .hunting, chars := [] }).receiveError .truncated

/-- R189: TRUNCATED, after some more bit times of recessive line. -/
def execTruncated (bits : Nat) (s : State) : Out :=
  takenOnLine (s.receives && s.line.rx == .inFrame && decide (22 < s.line.quiet + bits)) (State.truncate bits) s

/-- R189: SKIP_QUIET_END, after some more bit times of recessive line. -/
def execSkipQuietEnd (bits : Nat) (s : State) : Out :=
  taken (s.receives && s.line.rx == .skipping && decide (10 ≤ s.line.quiet + bits))
    (fun s => (s.quietFor bits).withLine { (s.quietFor bits).line with rx := .hunting, chars := [] }) s

/-- R188, R191: FRAME_COMPLETE, with the last character of the frame. -/
def execFrameComplete (data : Byte) (s : State) : Out :=
  takenOnLine (s.receives && s.line.rx == .inFrame && s.lastCharacter)
    (fun s => s.frameDone (s.line.chars ++ [data])) s

/-- R192: TRANSMIT_START, after some more bit times of recessive line. -/
def execTransmitStart (bits : Nat) (s : State) : Out := taken true (fun s => (s.quietFor bits).startFrame) s

/-- R193, R196: ARBITRATION_LOST: the line carries the other station's frame. -/
def execArbitrationLost (s : State) : Out :=
  takenOnLine s.line.shifter.isSome (fun s => (s.loseFrame).withLine { (s.loseFrame).line with quiet := 0 }) s

/-- R194: READ_BACK_FAILURE. -/
def execReadBackFailure (s : State) : Out := takenOnLine s.line.shifter.isSome State.readBackFails s

/-- R191, R196: TX_COMPLETE. -/
def execTxComplete (s : State) : Out := takenOnLine s.line.shifter.isSome State.frameSent s

/-- R186, R192: NOISE_PULSE: the receiver goes on waiting, and the quiet gap is measured from the pulse; so, IN_FRAME,
are the more than 22 bit times of TRUNCATED (DESIGN CHOICE, log 51). -/
def execNoisePulse (s : State) : Out := taken s.receives (fun s => s.withLine { s.line with quiet := 0 }) s

end Sys2Proof.Machine
end

