-- ==== Sys2Proof/Machine/FrameEvents.lean ====
section
/-! DEFINITION. The commands PUBLISH_HANDLED to HALT, UNDEFINED_FUNCTION and UNOWNED_REQUEST: the handling of a
received frame completes (R191). -/

namespace Sys2Proof.Machine

/-- R149: PUBLISH_HANDLED. -/
def execPublishHandled (s : State) : Out := handled .publishHandled State.takePublication s

/-- R51: the Operation Controller takes a CLAIM. -/
def State.takeClaimFrame (f : RxFrame) (s : State) : State :=
  match f.claim? with
  | some c => s.opTakesClaim c
  | none => s

/-- R51: CLAIM_HANDLED. -/
def execClaimHandled (s : State) : Out := handled .claimHandled State.takeClaimFrame s

/-- R51, R55: the Operation Controller takes a REPLY. -/
def State.takeReplyFrame (f : RxFrame) (s : State) : State :=
  match f.reply? with
  | some r => s.opTakesReply r
  | none => s

/-- R55: REPLY_HANDLED. -/
def execReplyHandled (s : State) : Out := handled .replyHandled State.takeReplyFrame s

/-- R205: the last stop notice. -/
def State.takeStopFrame (f : RxFrame) (s : State) : State := s.withNode { s.node with lastStop := f.stop? }

/-- R205: STOP_HANDLED. -/
def execStopHandled (s : State) : Out := handled .stopHandled State.takeStopFrame s

/-- R201: the records of a SETUP frame, in the order carried. -/
def State.takeSetupFrame (f : RxFrame) (s : State) : State :=
  ((f.setup?).getD []).foldl (fun s r => s.takeItem r) s

/-- R201, R202: SETUP_HANDLED. -/
def execSetupHandled (s : State) : Out := handled .setupHandled State.takeSetupFrame s

/-- R191: UNKNOWN_KIND_DISCARD. -/
def execUnknownKindDiscard (s : State) : Out := handled .unknownKindDiscard (fun _ s => s) s

/-- R175, R203, R208: START. -/
def execStart (s : State) : Out := handled .start (fun _ s => s.takeBroadcast .start) s

/-- R175, R174, R208: HALT. -/
def execHalt (s : State) : Out := handled .halt (fun _ s => s.takeBroadcast .halt) s

/-- R166, R167: UNDEFINED_FUNCTION. -/
def execUndefinedFunction (s : State) : Out := handled .undefinedFunction State.refuseRequest s

/-- R163, R180: UNOWNED_REQUEST. -/
def execUnownedRequest (s : State) : Out := handled .unownedRequest State.watchRequest s

end Sys2Proof.Machine
end

