-- ==== Sys2Proof/Machine/RequestEvents.lean ====
section
/-! DEFINITION. The commands PARK to TOOL_HOLD: the handling of a REQUEST whose function is this node's (R164,
R169, R171). -/

namespace Sys2Proof.Machine

/-- R207: PARK. -/
def execPark (s : State) : Out := handled .park (State.handleRequest takePark) s

/-- R209: RESET_NODE; the reset follows at once when its CLAIM cannot reach the line. -/
def execResetNode (s : State) : Out :=
  match s.headIs .resetNode with
  | some f => .next (((s.dropHeld).handleRequest takeResetNode f).conclude)
  | none => .next s

/-- R206: CLEAR_FAULT. -/
def execClearFault (s : State) : Out := handled .clearFault (State.handleRequest takeClearFault) s

/-- R156: QUERY_PEER. -/
def execQueryPeer (s : State) : Out := handled .queryPeer (State.handleRequest takeQueryPeer) s

/-- R157: QUERY_NODE. -/
def execQueryNode (s : State) : Out := handled .queryNode (State.handleRequest takeQueryNode) s

/-- R79, R97, R100: WINCH_MOVE. -/
def execWinchMove (s : State) : Out := handled .winchMove (State.handleRequest takeWinchMove) s

/-- R63: LOWER. -/
def execLower (s : State) : Out := handled .lower (State.handleRequest takeLower) s

/-- R65: LIFT. -/
def execLift (s : State) : Out := handled .lift (State.handleRequest takeLift) s

/-- R66: EXTEND. -/
def execExtend (s : State) : Out := handled .extend (State.handleRequest takeExtend) s

/-- R23: SET_DATUM. -/
def execSetDatum (s : State) : Out := handled .setDatum (State.handleRequest takeSetDatum) s

/-- R20, R21: ASSERT_PICTURE. -/
def execAssertPicture (s : State) : Out := handled .assertPicture (State.handleRequest takeAssertPicture) s

/-- R25: QUERY_KELLY. -/
def execQueryKelly (s : State) : Out := handled .queryKelly (State.handleRequest takeQueryKelly) s

/-- R79, R108, R109, R111: CROWD_MOVE. -/
def execCrowdMove (s : State) : Out := handled .crowdMove (State.handleRequest takeCrowdMove) s

/-- R177: QUERY_CROWD. -/
def execQueryCrowd (s : State) : Out := handled .queryCrowd (State.handleRequest takeQueryCrowd) s

/-- R79, R116, R118, R130: ROTARY_MOVE. -/
def execRotaryMove (s : State) : Out := handled .rotaryMove (State.handleRequest takeRotaryMove) s

/-- R40: LOCK. -/
def execLock (s : State) : Out := handled .lock (State.handleRequest takeLock) s

/-- R43: RELEASE. -/
def execRelease (s : State) : Out := handled .release (State.handleRequest takeRelease) s

/-- R72: BORE. -/
def execBore (s : State) : Out := handled .bore (State.handleRequest takeBore) s

/-- R75: BORE_STOP. -/
def execBoreStop (s : State) : Out := handled .boreStop (State.handleRequest takeBoreStop) s

/-- R76: SPIN_OFF. -/
def execSpinOff (s : State) : Out := handled .spinOff (State.handleRequest takeSpinOff) s

/-- R45: QUERY_LOCKS. -/
def execQueryLocks (s : State) : Out := handled .queryLocks (State.handleRequest takeQueryLocks) s

/-- R93: TOOL_OPEN. -/
def execToolOpen (s : State) : Out := handled .toolOpen (State.handleRequest takeToolOpen) s

/-- R93: TOOL_CLOSE. -/
def execToolClose (s : State) : Out := handled .toolClose (State.handleRequest takeToolClose) s

/-- R93: TOOL_HOLD. -/
def execToolHold (s : State) : Out := handled .toolHold (State.handleRequest takeToolHold) s

end Sys2Proof.Machine
end

