-- ==== Sys2Proof/Machine/Dispatch.lean ====
section
/-! DEFINITION. The meaning of each command: one arm for each constructor of Instr. -/

namespace Sys2Proof.Machine

def exec (i : Instr) (s : State) : Host.Outcome State Fault Refusal :=
  match i with
  | .powerOn pins => Sys2Proof.Machine.execPowerOn pins s
  | .supplyDip pins => Sys2Proof.Machine.execSupplyDip pins s
  | .resetLine pins => Sys2Proof.Machine.execResetLine pins s
  | .listenTimerExpiry => Sys2Proof.Machine.execListenTimerExpiry s
  | .stopLineAsserted => Sys2Proof.Machine.execStopLineAsserted s
  | .stopLineReleased => Sys2Proof.Machine.execStopLineReleased s
  | .ropeEvent payout => Sys2Proof.Machine.execRopeEvent payout s
  | .ropeTensionEvent tension => Sys2Proof.Machine.execRopeTensionEvent tension s
  | .kellyHomeActive => Sys2Proof.Machine.execKellyHomeActive s
  | .kellyHomeInactive => Sys2Proof.Machine.execKellyHomeInactive s
  | .axisSpeedEvent speed => Sys2Proof.Machine.execAxisSpeedEvent speed s
  | .strokeEvent stroke => Sys2Proof.Machine.execStrokeEvent stroke s
  | .crowdForceEvent force => Sys2Proof.Machine.execCrowdForceEvent force s
  | .angleEvent change => Sys2Proof.Machine.execAngleEvent change s
  | .torqueEvent torque => Sys2Proof.Machine.execTorqueEvent torque s
  | .brakeReleaseExpiry => Sys2Proof.Machine.execBrakeReleaseExpiry s
  | .brakeSetExpiry => Sys2Proof.Machine.execBrakeSetExpiry s
  | .slackTimerExpiry => Sys2Proof.Machine.execSlackTimerExpiry s
  | .stallTimerExpiry => Sys2Proof.Machine.execStallTimerExpiry s
  | .periodicTimerExpiry => Sys2Proof.Machine.execPeriodicTimerExpiry s
  | .agingStep station => Sys2Proof.Machine.execAgingStep station s
  | .sendBoundExpiry tag => Sys2Proof.Machine.execSendBoundExpiry tag s
  | .subRequestSlowWindowEnd tag => Sys2Proof.Machine.execSubRequestSlowWindowEnd tag s
  | .startDeadlineExpiry tag => Sys2Proof.Machine.execStartDeadlineExpiry tag s
  | .replyDeadlineExpiry tag => Sys2Proof.Machine.execReplyDeadlineExpiry tag s
  | .publicationWaitExpiry => Sys2Proof.Machine.execPublicationWaitExpiry s
  | .fastWindowEnd record => Sys2Proof.Machine.execFastWindowEnd record s
  | .defaultSlowWindowEnd record => Sys2Proof.Machine.execDefaultSlowWindowEnd record s
  | .parkEntryTimerExpiry => Sys2Proof.Machine.execParkEntryTimerExpiry s
  | .wakeTimerExpiry => Sys2Proof.Machine.execWakeTimerExpiry s
  | .characterError data parity stop => Sys2Proof.Machine.execCharacterError data parity stop s
  | .truncated bits => Sys2Proof.Machine.execTruncated bits s
  | .skipQuietEnd bits => Sys2Proof.Machine.execSkipQuietEnd bits s
  | .frameComplete data => Sys2Proof.Machine.execFrameComplete data s
  | .transmitStart bits => Sys2Proof.Machine.execTransmitStart bits s
  | .arbitrationLost => Sys2Proof.Machine.execArbitrationLost s
  | .readBackFailure => Sys2Proof.Machine.execReadBackFailure s
  | .txComplete => Sys2Proof.Machine.execTxComplete s
  | .publishHandled => Sys2Proof.Machine.execPublishHandled s
  | .claimHandled => Sys2Proof.Machine.execClaimHandled s
  | .replyHandled => Sys2Proof.Machine.execReplyHandled s
  | .stopHandled => Sys2Proof.Machine.execStopHandled s
  | .setupHandled => Sys2Proof.Machine.execSetupHandled s
  | .unknownKindDiscard => Sys2Proof.Machine.execUnknownKindDiscard s
  | .start => Sys2Proof.Machine.execStart s
  | .halt => Sys2Proof.Machine.execHalt s
  | .park => Sys2Proof.Machine.execPark s
  | .resetNode => Sys2Proof.Machine.execResetNode s
  | .clearFault => Sys2Proof.Machine.execClearFault s
  | .queryPeer => Sys2Proof.Machine.execQueryPeer s
  | .queryNode => Sys2Proof.Machine.execQueryNode s
  | .winchMove => Sys2Proof.Machine.execWinchMove s
  | .lower => Sys2Proof.Machine.execLower s
  | .lift => Sys2Proof.Machine.execLift s
  | .extend => Sys2Proof.Machine.execExtend s
  | .setDatum => Sys2Proof.Machine.execSetDatum s
  | .assertPicture => Sys2Proof.Machine.execAssertPicture s
  | .queryKelly => Sys2Proof.Machine.execQueryKelly s
  | .crowdMove => Sys2Proof.Machine.execCrowdMove s
  | .queryCrowd => Sys2Proof.Machine.execQueryCrowd s
  | .rotaryMove => Sys2Proof.Machine.execRotaryMove s
  | .lock => Sys2Proof.Machine.execLock s
  | .release => Sys2Proof.Machine.execRelease s
  | .bore => Sys2Proof.Machine.execBore s
  | .boreStop => Sys2Proof.Machine.execBoreStop s
  | .spinOff => Sys2Proof.Machine.execSpinOff s
  | .queryLocks => Sys2Proof.Machine.execQueryLocks s
  | .toolOpen => Sys2Proof.Machine.execToolOpen s
  | .toolClose => Sys2Proof.Machine.execToolClose s
  | .toolHold => Sys2Proof.Machine.execToolHold s
  | .undefinedFunction => Sys2Proof.Machine.execUndefinedFunction s
  | .unownedRequest => Sys2Proof.Machine.execUnownedRequest s
  | .characterReceived data => Sys2Proof.Machine.execCharacterReceived data s
  | .noisePulse => Sys2Proof.Machine.execNoisePulse s

end Sys2Proof.Machine
end

