-- ==== Sys2Proof/Safety.lean ====
section
/-! DEFINITION. What it means for a state to be sound: the bounds of the queues and tables, the place of the
grant under the published claim, and the joint picture; and the vocabulary in which a statement says what a
command leaves as it was. -/

namespace Sys2Proof.Machine

/-! ### What stays the same -/

/-- The parts of the block's state that a frame names. -/
inductive Part where
  | clock | sens | straps | setup | mode | node | rx | line | req | peers | pub | share | trk | locks | drv | op
  deriving DecidableEq, Repr

/-- Two states agree in a part: `straps` are the straps and their pins, `setup` the setup table with the items in
force, `mode` the node state, `rx` the receiver, the holding queue, the line state and its counts. -/
def Part.same (p : Part) (s t : State) : Prop :=
  match p with
  | .clock => t.clockUs = s.clockUs
  | .sens => t.sens = s.sens
  | .straps => t.node.straps = s.node.straps ∧ t.node.pins = s.node.pins
  | .setup => t.node.setup = s.node.setup ∧ t.node.items = s.node.items ∧ t.node.badItems = s.node.badItems
      ∧ t.node.committed = s.node.committed ∧ t.node.failure = s.node.failure
  | .mode => t.node.state = s.node.state ∧ t.node.listen = s.node.listen
  | .node => t.node = s.node
  | .rx => t.line.rx = s.line.rx ∧ t.line.chars = s.line.chars ∧ t.line.hold = s.line.hold
      ∧ t.line.state = s.line.state ∧ t.line.errRun = s.line.errRun ∧ t.line.goodRun = s.line.goodRun
      ∧ t.line.quiet = s.line.quiet
  | .line => t.line = s.line
  | .req => t.req = s.req
  | .peers => t.peers = s.peers
  | .pub => t.pub = s.pub
  | .share => t.share = s.share
  | .trk => t.trk = s.trk
  | .locks => t.locks = s.locks
  | .drv => t.drv = s.drv
  | .op => t.op = s.op

/-- The states agree in every part but those listed, and in the commands that wait. -/
def State.sameBut (ps : List Part) (s t : State) : Prop :=
  t.pending = s.pending ∧ ∀ p : Part, p ∉ ps → p.same s t

/-! ### What each command can touch -/

/-- The parts that the end of every event can touch: its publication (R160). -/
def Part.publication : List Part := [.pub, .line]

/-- The parts that an end of a mode or of an operation touches besides (R57, R83). -/
def Part.ending : List Part := [.drv, .req, .op] ++ Part.publication

/-- The parts that a change of node state touches besides (R203, R204). -/
def Part.nodeChange : List Part := [.node, .mode] ++ Part.ending

/-- The parts that an entry handed on touches besides (R151). -/
def Part.handOn : List Part := [.share, .trk, .locks] ++ Part.nodeChange

end Sys2Proof.Machine

namespace Sys2Proof

open Machine

/-- What a command can change when it does not reset the node: its own part and what the rules attach to it. A
command of frame handling frees the slot of the held frame (`rx`). -/
def Instr.touches : Instr → List Part
  | .powerOn _ | .supplyDip _ | .resetLine _ =>
    [.clock, .straps, .setup, .rx, .peers] ++ Part.handOn
  | .listenTimerExpiry => Part.nodeChange
  | .stopLineAsserted => .sens :: Part.nodeChange
  | .stopLineReleased => [.sens, .node, .mode, .drv] ++ Part.publication
  | .ropeEvent _ => [.sens, .node, .trk] ++ Part.ending
  | .ropeTensionEvent _ => [.sens, .drv] ++ Part.publication
  | .kellyHomeActive => [.sens, .trk] ++ Part.ending
  | .kellyHomeInactive | .crowdForceEvent _ => .sens :: Part.publication
  | .axisSpeedEvent _ => [.sens, .locks, .drv] ++ Part.publication
  | .strokeEvent _ => .sens :: Part.ending
  | .angleEvent _ | .torqueEvent _ => [.sens, .locks] ++ Part.ending
  | .brakeReleaseExpiry => .locks :: Part.ending
  | .brakeSetExpiry => [.drv, .req] ++ Part.publication
  | .slackTimerExpiry => [.node, .drv] ++ Part.publication
  | .periodicTimerExpiry => Part.publication
  | .agingStep _ => .peers :: Part.handOn
  | .stallTimerExpiry | .sendBoundExpiry _ | .subRequestSlowWindowEnd _ | .startDeadlineExpiry _
  | .replyDeadlineExpiry _ | .publicationWaitExpiry => Part.ending
  | .fastWindowEnd _ | .defaultSlowWindowEnd _ => .req :: Part.publication
  | .parkEntryTimerExpiry => [.node, .drv, .req] ++ Part.publication
  | .wakeTimerExpiry => [.trk, .locks] ++ Part.nodeChange
  | .characterError _ _ _ | .characterReceived _ | .truncated _ => [.rx, .req] ++ Part.publication
  | .skipQuietEnd _ | .transmitStart _ | .noisePulse => .rx :: Part.publication
  | .frameComplete _ => .rx :: Part.nodeChange
  | .arbitrationLost => .rx :: Part.ending
  | .readBackFailure => [.rx, .node] ++ Part.ending
  | .txComplete => [.rx, .node, .req, .peers, .share, .op] ++ Part.publication
  | .publishHandled => [.rx, .peers] ++ Part.handOn
  | .claimHandled => [.rx, .op] ++ Part.publication
  | .replyHandled => [.rx, .locks] ++ Part.ending
  | .stopHandled => [.rx, .node] ++ Part.publication
  | .setupHandled => [.rx, .node, .mode, .setup, .drv, .req, .peers, .share, .trk, .locks] ++ Part.publication
  | .unknownKindDiscard => .rx :: Part.publication
  | .start | .halt => .rx :: Part.nodeChange
  | .park => [.rx, .node, .mode, .drv, .req] ++ Part.publication
  | .resetNode | .clearFault | .queryPeer | .queryNode | .queryKelly | .queryCrowd | .queryLocks =>
    [.rx, .node, .drv, .req] ++ Part.publication
  | .winchMove | .crowdMove | .rotaryMove | .lock | .release | .lower | .lift | .extend | .bore | .boreStop
  | .spinOff => [.rx, .node, .locks] ++ Part.ending
  | .setDatum => [.rx, .node, .trk] ++ Part.ending
  | .assertPicture => [.rx, .node, .trk, .drv, .req] ++ Part.publication
  | .toolOpen | .toolClose | .toolHold => [.rx, .node, .drv, .req] ++ Part.publication
  | .undefinedFunction | .unownedRequest => [.rx, .req] ++ Part.publication

/-- R209: the commands that reset the node, and those at whose end a RESET_NODE can have become due. -/
def Instr.canReset : Instr → Bool
  | .powerOn _ | .supplyDip _ | .resetLine _ => true
  | .characterError _ _ _ | .characterReceived _ | .truncated _ | .frameComplete _ | .arbitrationLost
  | .readBackFailure | .txComplete | .resetNode => true
  | _ => false

end Sys2Proof

namespace Sys2Proof.Machine

/-! ### Bounds -/

/-- R187, R189, R191, R195: six frames in the transmit queue, in order of class, one PUBLISH among them; two
frames held; counts up to 255. -/
def LinePort.bounded (l : LinePort) : Prop :=
  l.queue.length ≤ 6 ∧ (l.queue.filter TxFrame.isPublish).length ≤ 1
    ∧ l.queue.Pairwise (fun a b => a.kind.rank ≤ b.kind.rank)
    ∧ l.hold.length ≤ 2 ∧ l.errRun ≤ 255 ∧ l.goodRun ≤ 255

/-- R170, R180, R184: four table entries, each with a number of its own, eight default records, a tag counter of
one byte. -/
def RequestUnit.bounded (r : RequestUnit) : Prop :=
  r.table.length ≤ 4 ∧ (r.table.map ReqEntry.id).Nodup ∧ (∀ e ∈ r.table, e.id < r.nextId)
    ∧ r.defaults.length ≤ 8 ∧ r.tagCtr < 256

/-- R148: one entry a station, in rising order, none of an ABSENT station. -/
def peersOrdered (ps : List Peer) : Prop :=
  ps.Pairwise (fun a b => a.station < b.station) ∧ ∀ p ∈ ps, p.presence ≠ .absent

/-- R148, R170, R180, R184, R187, R191, R195, R208: every queue, table and count is within its bounds. -/
def State.bounded (s : State) : Prop :=
  s.line.bounded ∧ s.req.bounded ∧ peersOrdered s.peers ∧ s.node.heldBc.length ≤ 4

/-- Between commands no change signal waits: each event built its one frame (R160). -/
def State.settled (s : State) : Prop := s.pub.signal = false

/-- What every step keeps. -/
def State.sound (s : State) : Prop := s.bounded ∧ s.settled

/-! ### Sharing -/

/-- R137, R140, R141: the own published claim is that of the own entry, and the own grant does not exceed it. -/
def State.shareSound (s : State) : Prop :=
  (∀ p, entryAt s.station s.peers = some p → p.claim = s.share.ownClaim) ∧ s.share.grant ≤ s.share.ownClaim.kw

/-! ### The joint picture -/

/-- R1, R2: every joint on the stack is a joint of the table, none stands there twice, the joints on the stack are
the OPEN ones, an OPEN joint's extension lies in 1..SLIDE_j, and a CLOSED joint's is 0. -/
def Tracker.pictured (slide : Nat → Nat) (t : Tracker) : Prop :=
  t.stack.Nodup ∧ (∀ j ∈ t.stack, 1 ≤ j ∧ j ≤ t.joints.length)
    ∧ ∀ j, 1 ≤ j → j ≤ t.joints.length →
        ((t.joint j).opened = true ↔ j ∈ t.stack)
          ∧ ((t.joint j).opened = true → 1 ≤ (t.joint j).ext ∧ (t.joint j).ext ≤ slide j)
          ∧ ((t.joint j).opened = false → (t.joint j).ext = 0)

/-- R10, R12: while TRACKING the extensions and the residue make up E, and the residue is within SLIP_TOL; while
SUSPENDED they make up Es; in UNKNOWN the picture is empty. -/
def State.accounted (s : State) : Prop :=
  match s.trk.state with
  | .tracking => (s.trk.extSum : Int) + s.trk.residue = s.E ∧ s.trk.residue.natAbs ≤ s.node.setup.slipTol
  | .suspended => (s.trk.extSum : Int) + s.trk.residue = s.trk.es
  | .unknown => s.trk.stack = [] ∧ s.trk.residue = 0 ∧ ∀ r ∈ s.trk.joints, r = JointRec.closed

/-- What every step keeps of the picture of a winch node: a record for each joint of the setup, slides above 0, the
picture in order and accounted for; and before the commit no joints, in UNKNOWN. -/
def State.pictureSound (s : State) : Prop :=
  s.role = some .winch →
    s.trk.joints.length = s.jointCount ∧ (∀ g ∈ s.node.setup.joints, 1 ≤ g.slide)
      ∧ s.trk.pictured (fun j => (s.geom j).slide) ∧ s.accounted
      ∧ (s.node.state = .listen ∨ s.node.state = .setup → s.trk.joints = [] ∧ s.trk.state = .unknown)

end Sys2Proof.Machine
end

