-- ==== Sys2Proof/Statements.lean ====
section
/-! DEFINITION. The words in which the obligations speak: what a state asks of the node, and what an answer, the
end of a mode, the end of an operation and a reset are. -/

namespace Sys2Proof.Machine

/-! ### What a state asks -/

/-- The oldest held frame is `f`, and its handling at this node is the row (R191). -/
def State.heads (s : State) (row : Instr) (f : RxFrame) : Prop := ∃ rest, s.line.hold = f :: rest ∧ s.rowOf f = row

/-- The oldest held frame is the REQUEST `r`, and its handling at this node is the row. -/
def State.asks (s : State) (row : Instr) (r : Request) : Prop := ∃ f, s.heads row f ∧ f.request? = some r

/-- The node may queue frames (R196), and there is room in its transmit queue for n more (R195). -/
def State.hasRoom (n : Nat) (s : State) : Prop := s.silenced = false ∧ s.line.queue.length + n ≤ 6

/-- The node claims the REQUEST (R168), and its table and its transmit queue have room for it (R169, R195). -/
def State.takesRequest (s : State) (r : Request) (frames : Nat) : Prop :=
  s.claims (isStationAddressed r.fn) = true ∧ s.req.table.length < 4 ∧ s.hasRoom frames

/-- R163, R170: the table entry that a REQUEST makes. -/
def Request.entry (id : Nat) (r : Request) : ReqEntry :=
  { id := id, requester := r.requester, tag := r.tag, fn := r.fn, qual := r.qual, args := r.args, state := .claimed }

/-- R169, R199: the CLAIM of a REQUEST; that of a RESET_NODE is known by its entry (R209). -/
def State.claimOfRequest (s : State) (r : Request) : TxFrame :=
  claimFrame (if r.fn = Fn.resetNode then .resetClaim s.req.nextId else .requestUnit) r.requester r.tag r.fn 0

/-- R169: the state in which the block of a REQUEST takes it: its frame handled, its CLAIM queued, its entry made. -/
def State.claimed (r : Request) (s : State) : State :=
  let u := s.dropHeld.offer (s.claimOfRequest r)
  u.withReq { u.req with table := u.req.table ++ [r.entry s.req.nextId], nextId := s.req.nextId + 1 }

/-! ### What an outcome holds -/

/-- The frames stand in the transmit queue. -/
def State.queued (fs : List TxFrame) (t : State) : Prop := ∀ f ∈ fs, f ∈ t.line.queue

/-- R169, R172, R176: the CLAIM and the REPLY of a REQUEST are queued, and the table is as before. -/
def State.answers (r : Request) (res : Result) (why : Reason) (content : List Byte) (s t : State) : Prop :=
  t.req.table = s.req.table
    ∧ t.queued (s.claimOfRequest r :: replyFrames .requestUnit r.requester r.tag r.fn res why content)

/-- R172: the REPLY of a table entry is queued and the entry removed. -/
def State.replied (e : ReqEntry) (res : Result) (why : Reason) (t : State) : Prop :=
  (∀ x ∈ t.req.table, x.id ≠ e.id) ∧ t.queued (replyFrames .requestUnit e.requester e.tag e.fn res why [])

/-- R82 to R87: the drive has gone to HOLD, from the drive `d`. -/
def Drive.wentToHold (d : Drive) (brakeSet : Nat) (e : Drive) : Prop :=
  e.mode = .hold ∧ e.pending = none ∧ e.claim = Claim.none
    ∧ e.state = (if d.state = .held then .held else .setting)
    ∧ e.timer = (if d.state = .releasing ∨ d.state = .active then Timer.ms brakeSet else d.timer)

/-- R83: the mode that the entry's request gave has ended: the drive holds and the request is replied. -/
def State.modeEnded (e : ReqEntry) (res : Result) (why : Reason) (s t : State) : Prop :=
  s.drv.wentToHold s.node.setup.brakeSet t.drv ∧ t.drv.source = none ∧ t.replied e res why

/-- R50, R57: the wind-down HOLDs of the still-acting entries of a list, with the tags that follow. -/
def State.windDownFrames (s : State) (subs : List SubEntry) : List TxFrame :=
  (subs.filter SubEntry.stillActing).zipIdx.map fun (x, i) =>
    let hold := holdFor x.what.target
    requestFrame .windDown hold.fn ((s.req.tagCtr + i) % 256) (hold.args s.node.setup)

/-- R57, R61: an operation is wound down: the HOLDs of its still-acting entries are queued in list order, no REQUEST of
a sub-request stands in the queue but those in `fresh`, and one in the shifter is withdrawn. -/
def State.woundDownBut (fresh : List TxFrame) (subs : List SubEntry) (s t : State) : Prop :=
  (s.req.tagCtr < 256 → (s.windDownFrames subs).Sublist t.line.queue)
    ∧ (∀ f ∈ t.line.queue, f.owner.isSubRequest = true → f ∈ fresh)
    ∧ ∀ f, s.line.shifter = some f → f.owner.isSubRequest = true →
        t.line.shifter = some { f with withdrawn := true }

/-- R57, R61: an operation is wound down, and no REQUEST of a sub-request stands in the queue. -/
def State.woundDown (subs : List SubEntry) (s t : State) : Prop := s.woundDownBut [] subs t

/-- R57, R58: an operation has ended with the entries `subs` in its list: no record, the own drive in HOLD, the
originating request replied, and the operation wound down, with no HOLD where it ends ABORTED. -/
def State.opEnded (e : ReqEntry) (subs : List SubEntry) (res : Result) (why : Reason) (s t : State) : Prop :=
  t.op = none ∧ s.drv.wentToHold s.node.setup.brakeSet t.drv ∧ t.replied e res why
    ∧ s.woundDown (if res = .aborted then [] else subs) t

/-- R174: the ABORTED replies of the emptied table, in claim order. -/
def State.abortedReplies (s : State) : List TxFrame :=
  (s.req.table.filter ReqEntry.emptied).flatMap fun e =>
    replyFrames .requestUnit e.requester e.tag e.fn .aborted .noReason []

/-- R58, R174: the table is emptied: every entry but a RESET_NODE that awaits its reset is replied ABORTED, in claim
order, and removed; an operation ends without a wind-down. -/
def State.tableEmptied (s t : State) : Prop :=
  t.req.table = s.req.table.filter (fun e => !e.emptied) ∧ t.op = none
    ∧ (s.hasRoom (s.req.table.filter ReqEntry.emptied).length → s.abortedReplies.Sublist t.line.queue)
    ∧ (s.op ≠ none → s.woundDown [] t)

/-- R208: a broadcast that a PARKED node takes is held, beginning the wake of a SETTLED node and interrupting an entry
into parking; with four held it changes nothing. -/
def State.broadcastHeld (b : Broadcast) (s t : State) : Prop :=
  t.node.state = .parked
    ∧ (s.node.heldBc.length < 4 →
        t.node.heldBc.map HeldBroadcast.what = s.node.heldBc.map HeldBroadcast.what ++ [b]
          ∧ (s.node.park = .settled → t.node.park = .waking ∧ t.node.parkTimer = Timer.ms 100 ∧ t.drv.supply = true)
          ∧ (s.node.park = .entering → t.node.park = .entering ∧ t.node.interrupted = true)
          ∧ (s.node.park = .waking → t.node.park = .waking ∧ t.node.parkTimer = s.node.parkTimer))
    ∧ (4 ≤ s.node.heldBc.length → t = s.dropHeld)

/-- R189, R190: a receive error is counted: the error run grows, the good run is 0, and the 16th error in a row makes a
NORMAL line LISTEN_ONLY, where no default record is kept (R180). -/
def State.errorCounted (k : LineError) (s t : State) : Prop :=
  t.line.lastError = k ∧ t.line.errRun = min (s.line.errRun + 1) 255 ∧ t.line.goodRun = 0
    ∧ (s.line.errRun = 15 → s.line.state = .normal → t.line.state = .listenOnly ∧ t.req.defaults = [])
    ∧ ((s.line.errRun ≠ 15 ∨ s.line.state ≠ .normal) → t.line.state = s.line.state ∧ t.req = s.req)

/-- R189, R190: a good frame is counted: the error run is 0, the good run grows, and the 8th good frame in a row makes a
LISTEN_ONLY line NORMAL. -/
def State.goodFrameCounted (s t : State) : Prop :=
  t.line.errRun = 0 ∧ t.line.goodRun = min (s.line.goodRun + 1) 255
    ∧ t.line.state = (if s.line.goodRun = 7 ∧ s.line.state = .listenOnly then .normal else s.line.state)

/-- R182, R183: a frame settles the default records of a requester and tag: a POSITIVE CLAIM, a DEFAULT CLAIM of a
lower station, or a REPLY other than NO_OWNER. -/
def State.settledBy (s : State) (f : RxFrame) (who tag : Nat) : Prop :=
  (∃ c, f.claim? = some c ∧ c.requester = who ∧ c.tag = tag ∧ (c.kind = 0 ∨ c.kind = 1 ∧ c.src < s.station))
    ∨ ∃ r, f.reply? = some r ∧ r.requester = who ∧ r.tag = tag ∧ r.result ≠ Result.noOwner.code

/-- R182: the default records of a requester and tag are removed, and their frames withdrawn: from the queue, or marked
in the shifter. -/
def State.recordsSettled (who tag : Nat) (s t : State) : Prop :=
  let gone := fun n => s.req.defaults.any fun r => r.requester == who && r.tag == tag && r.id == n
  let ofGone := fun g : TxFrame => (g.owner.record.map gone).getD false
  t.req.defaults = s.req.defaults.filter (fun r => !gone r.id)
    ∧ t.line.queue = s.line.queue.filter (fun g => !ofGone g)
    ∧ t.line.shifter = s.line.shifter.map fun g => if ofGone g then { g with withdrawn := true } else g

/-- The operation record `o` runs for the table entry `e`, and the queue has room for the REPLY and for a HOLD to
each of its sub-requests. -/
def State.runsFor (s : State) (o : OpRecord) (e : ReqEntry) : Prop :=
  s.op = some o ∧ s.entryOf o.entry = some e ∧ s.hasRoom (1 + o.subs.length)

/-- R78: the drive is ACTIVE in the mode in which it was releasing, with the source and the claim of that mode. -/
def State.becameActive (s t : State) : Prop :=
  t.drv.state = .active ∧ t.drv.mode = s.drv.mode ∧ t.drv.timer = none ∧ t.drv.source = s.drv.source
    ∧ t.drv.claim = s.drv.claim

/-- R83: the mode has ended by itself: the drive holds and sets its brake; a direct request is replied, or the
operation whose mode it was ends with the same result. -/
def State.endedItself (res : Result) (why : Reason) (s t : State) : Prop :=
  s.drv.wentToHold s.node.setup.brakeSet t.drv
    ∧ (∀ e, s.drv.source = some (.request e.id) → s.entryOf e.id = some e → s.hasRoom 1 →
        t.drv.source = none ∧ t.replied e res why)
    ∧ ∀ o e, s.drv.source = some .operation → s.runsFor o e → s.opEnded e o.subs res why t

/-- R83, R99: the end of a PAY by a loss of tracking, which no operation hears of (R58, R62). -/
def State.payLost (s t : State) : Prop :=
  s.drv.wentToHold s.node.setup.brakeSet t.drv
    ∧ ∀ e, s.drv.source = some (.request e.id) → s.entryOf e.id = some e → s.hasRoom 1 →
        t.drv.source = none ∧ t.replied e .failed s.lossReason

/-- R80, R81, R89: the request `r` is claimed, its entry ACTING beside the entries `left`, and the drive takes the
mode with its claim: a HELD drive begins to release toward it, a RELEASING one goes on toward it, an ACTIVE one changes
to it, and a setting one keeps it pending. -/
def State.motionTaken (m : Mode) (r : Request) (left : List ReqEntry) (s t : State) : Prop :=
  t.queued [s.claimOfRequest r] ∧ t.req.table = left ++ [{ r.entry s.req.nextId with state := .acting }]
    ∧ t.drv.claim = s.claimOf m ∧ t.drv.source = some (.request s.req.nextId)
    ∧ (s.drv.state = .held → t.drv.state = .releasing ∧ t.drv.mode = m
        ∧ t.drv.timer = Timer.ms s.node.setup.brakeRelease)
    ∧ ((s.drv.state = .releasing ∨ s.drv.state = .active) → t.drv.state = s.drv.state ∧ t.drv.mode = m
        ∧ t.drv.timer = s.drv.timer)
    ∧ (s.drv.state = .setting → t.drv.state = .setting ∧ t.drv.pending = some m ∧ t.drv.mode = s.drv.mode
        ∧ t.drv.timer = s.drv.timer)

/-- R47, R50: the REQUEST of a sub-request entry. -/
def SubEntry.frame (su : Setup) (x : SubEntry) : TxFrame :=
  requestFrame (.subRequest x.tag x.what.target) x.what.fn x.tag (x.what.args su)

/-- R49, R50: the operation request `r` is accepted, its entry WAITING_PEERS beside the entries `left`: `o` is its record,
of its kind, in its first phase, with its first sub-requests queued in order, and the own drive has gone to HOLD. -/
def State.operationTaken (spec : OpSpec) (first : Phase) (subs : List SubReq) (r : Request) (left : List ReqEntry)
    (o : OpRecord) (s t : State) : Prop :=
  t.op = some o ∧ o.spec = spec ∧ o.phase = first ∧ o.requester = r.requester ∧ o.tag = r.tag
    ∧ o.entry = s.req.nextId ∧ o.subs.map SubEntry.what = subs
    ∧ (∀ x ∈ o.subs, x.claim = .unclaimed ∧ x.sendBound = Timer.ms 500 ∧ t.queued [x.frame s.node.setup])
    ∧ s.drv.wentToHold s.node.setup.brakeSet t.drv
    ∧ t.req.table = left ++ [{ r.entry s.req.nextId with state := .waitingPeers }]
    ∧ t.queued [s.claimOfRequest r]

/-! ### What a Peer Table entry hands on (R151) -/

/-- R6, R10, R12, R14, R17: the tracker of a winch node takes the mirrors as they stand in `t`. While TRACKING it
attributes a change of the stroke, or faults, with both mirrors good, and is suspended with one that is not; while
SUSPENDED it resumes, or loses the tracking, once both are good; in UNKNOWN it re-zeros when the crowd stroke becomes
available at kelly home. -/
def State.trackerHandedOn (s t : State) : Prop :=
  let moved := s.strokeInUse - t.strokeInUse
  let after := s.trk.attribute (fun j => (s.geom j).slide) t.freeInMirror moved
  let kind := slipKind (fun j => (s.geom j).slide) moved after
  let gap := s.sens.payout - t.strokeInUse - s.trk.ropeOffset - s.trk.es
  let within := gap.natAbs ≤ s.node.setup.slipTol ∧ (s.trk.residue + gap).natAbs ≤ s.node.setup.slipTol
  let cleared := t.trk.state = .unknown ∧ t.trk.stack = [] ∧ t.trk.residue = 0
    ∧ t.trk.joints = s.trk.joints.map (fun _ => JointRec.closed)
  let comes := s.strokeAvailable = false ∧ t.strokeAvailable = true ∧ s.sens.home = true ∧ s.trk.joints ≠ []
  (s.trk.state = .tracking → t.bothGood = false →
      t.trk = { s.trk with state := .suspended, es := s.E, leftBy := none })
    ∧ (s.trk.state = .tracking → t.bothGood = true → after.residue.natAbs ≤ s.node.setup.slipTol → t.trk = after)
    ∧ (s.trk.state = .tracking → t.bothGood = true → s.node.setup.slipTol < after.residue.natAbs →
        cleared ∧ t.trk.leftBy = some kind ∧ t.node.faults.has kind = true ∧ t.drivesStopLine = true)
    ∧ (s.trk.state = .suspended → t.bothGood = true → within →
        t.trk = { s.trk with residue := s.trk.residue + gap, state := .tracking })
    ∧ (s.trk.state = .suspended → t.bothGood = true → ¬within →
        cleared ∧ t.trk.event = { kind := .trackingLost, amount := gap, seq := (s.trk.event.seq + 1) % 256 })
    ∧ (s.trk.state = .suspended → t.bothGood = false → t.trk = s.trk)
    ∧ (s.trk.state = .unknown → comes →
        t.trk.state = (if t.bothGood then .tracking else .suspended) ∧ t.trk.stack = [] ∧ t.trk.residue = 0
          ∧ t.trk.ropeOffset = s.sens.payout - t.strokeInUse ∧ t.trk.event = s.trk.event)
    ∧ (s.trk.state = .unknown → ¬comes → t.trk = s.trk)

/-- R112, R113: thrust is withheld while permission fails and restored when it holds, with the mode, its source and its
claim kept. -/
def State.thrustHandedOn (s t : State) : Prop :=
  s.op = none →
    t.drv.withheld = (t.drv.thrusting && !t.permission)
      ∧ ∀ f, s.drv.mode = .thrust f → t.node.state = s.node.state →
          t.drv.state = s.drv.state ∧ t.drv.mode = s.drv.mode ∧ t.drv.source = s.drv.source
            ∧ t.drv.claim = s.drv.claim

/-- R151: what an entry hands on to the tracker and to the thrust permission. -/
def State.handedOn (s t : State) : Prop := (s.role = some .winch → s.trackerHandedOn t) ∧ s.thrustHandedOn t

/-- R160: a PUBLISH of the state as it stands is queued. -/
def State.publicationQueued (t : State) : Prop :=
  ∃ f ∈ t.line.queue, f.kind = .publish ∧ f.payload = t.commonPart ++ t.ownPart

/-- R200 to R209: what a reset leaves of Node Control; the items in force stand at their defaults (log 14). -/
def NodeCtl.isReset (cause : ResetCause) (prior : PriorState) (pins : Straps) (n : NodeCtl) : Prop :=
  n.straps = pins ∧ n.pins = pins ∧ n.state = .listen ∧ n.listen = some 500000 ∧ n.items = [] ∧ n.badItems = []
    ∧ n.setup = Setup.default ∧ n.committed = false ∧ n.failure = none ∧ n.faults = FaultSet.empty
    ∧ n.pull = StopPull.empty ∧ n.lastStop = none ∧ n.park = .notParked ∧ n.parkTimer = none ∧ n.interrupted = false
    ∧ n.heldBc = [] ∧ n.cause = cause ∧ n.prior = prior

/-- R187, R189, R190, R195, R209: what a reset leaves of the Line Port. -/
def LinePort.isReset (l : LinePort) : Prop :=
  l.rx = .hunting ∧ l.chars = [] ∧ l.hold = [] ∧ l.queue = [] ∧ l.shifter = none ∧ l.state = .normal
    ∧ l.errRun = 0 ∧ l.goodRun = 0 ∧ l.lastError = .noError

/-- R135, R148, R158, R167, R170, R180, R184: what a reset leaves of the tables and of the sharing. -/
def State.tablesReset (t : State) : Prop :=
  t.req.table = [] ∧ t.req.defaults = [] ∧ t.req.tagCtr = 0 ∧ t.req.aux1 = AuxWindow.off
    ∧ t.req.aux2 = AuxWindow.off
    ∧ t.peers = [] ∧ t.pub.timer = none ∧ t.op = none
    ∧ t.share.capacity = 200 ∧ t.share.source = none ∧ t.share.ownClaim = Claim.none ∧ t.share.grant = 0
    ∧ t.share.starved = false

/-- R1, R2, R3, R5, R12, R18, R22: what a reset leaves of the Kelly Tracker. -/
def Tracker.isReset (k : Tracker) : Prop :=
  k.joints = [] ∧ k.stack = [] ∧ k.residue = 0 ∧ k.state = .unknown ∧ k.ropeOffset = 0 ∧ k.datumOffset = 0 ∧ k.es = 0
    ∧ k.leftBy = none ∧ k.event.kind = .noEvent ∧ k.event.amount = 0 ∧ k.event.seq = 0

/-- R26 to R31, R37: what a reset leaves of the Lock Monitor. -/
def LockMonitor.isReset (l : LockMonitor) : Prop :=
  l.records = [] ∧ l.pocketCounts = [] ∧ l.known = false ∧ l.dir = .rest ∧ l.fwd = 0 ∧ l.rev = 0 ∧ l.watch = false
    ∧ l.event.kind = .noEvent ∧ l.event.travel = 0 ∧ l.event.seq = 0

/-- R77, R93, R104, R113, R120, R121, R131: what a reset leaves of the Axis Drive. -/
def Drive.isReset (d : Drive) : Prop :=
  d.state = .held ∧ d.mode = .hold ∧ d.pending = none ∧ d.timer = none ∧ d.claim = Claim.none
    ∧ d.source = none ∧ d.tool = .held ∧ d.slack = .clear ∧ d.slackTimer = none ∧ d.stall = .clear
    ∧ d.stallTimer = none ∧ d.recovery = .boring ∧ d.attempts = 0 ∧ d.withheld = false ∧ d.spin = Spin.unused ∧ d.supply = true

/-- R209: the block as a reset of a cause leaves it. The readings are the sensors'. -/
def State.wasReset (cause : ResetCause) (prior : PriorState) (pins : Straps) (s t : State) : Prop :=
  t.sens = s.sens ∧ t.node.isReset cause prior pins ∧ t.line.isReset ∧ t.tablesReset ∧ t.trk.isReset
    ∧ t.locks.isReset ∧ t.drv.isReset

/-- R209: no RESET_NODE waits in the table for its reset. -/
def State.noResetWaits (s : State) : Prop := ∀ e ∈ s.req.table, e.fn ≠ Fn.resetNode

/-! ### Rows of one shape -/

/-- R40, R43, R79: the mode that a direct motion request asks for, none for bad arguments. -/
def modeAsked (row : Instr) (su : Setup) (args : List Byte) : Option Mode :=
  match row with
  | .winchMove => winchMode su args
  | .crowdMove => crowdMode su args
  | .rotaryMove => rotaryMode su args
  | .lock => if args = [] then some .lock else none
  | .release => if args = [] then some .release else none
  | _ => none

/-- R43, R96, R101, R107, R110: the modes whose entry to ACTIVE can end them though their interlock holds. -/
def Mode.endsAtEntry : Mode → Bool
  | .haul _ => true
  | .feed _ _ => true
  | .pull _ _ => true
  | .release => true
  | _ => false

/-- R25, R45, R156, R157, R177: the content of a query's REPLY, none for bad arguments. -/
def queryContent (row : Instr) (s : State) (args : List Byte) : Option (List Byte) :=
  match row with
  | .queryKelly => some s.kellyRecord
  | .queryLocks => some s.locksRecord
  | .queryCrowd => if args = [] then some s.crowdRecord else none
  | .queryPeer => if args.length = 2 ∧ fieldU 1 1 args ≤ 15 then some (s.peerRecord (fieldU 1 1 args)) else none
  | .queryNode => if args.length = 1 then some s.nodeRecord else none
  | _ => none

/-- R93: the tool state that a TOOL request brings. -/
def toolAsked (row : Instr) : Option ToolState :=
  match row with
  | .toolOpen => some .opened
  | .toolClose => some .closed
  | .toolHold => some .held
  | _ => none

/-- R64: the sub-requests of LOWER and LIFT. -/
def State.ropeSubs (s : State) : List SubReq :=
  (if s.jointNumbers.any s.seatedInMirror then [.release] else []) ++ [.crowdHold]

/-- R63 to R67, R72, R73, R76: what an operation request starts when its arguments and prechecks hold: the
operation, its first phase and its first sub-requests. -/
def State.operationAsked (row : Instr) (s : State) (args : List Byte) : Option (OpSpec × Phase × List SubReq) :=
  match row with
  | .lower =>
    (readDepth args).bind fun d =>
      if s.trk.state = .tracking ∧ s.D < d ∧ d ≤ s.node.setup.maxDepth ∧ s.rotaryIdle then
        some (.lower d, .prepare, s.ropeSubs)
      else none
  | .lift =>
    (readDepth args).bind fun d =>
      if s.trk.state = .tracking ∧ d < s.D ∧ s.rotaryIdle then some (.lift d, .prepare, s.ropeSubs) else none
  | .extend =>
    if args = [] ∧ s.trk.state = .tracking ∧ s.rotaryIdle then
      s.extendTarget.bind fun (j, k) =>
        let x := k * (s.geom j).pitch
        if (s.node.setup.strokeMin : Int) ≤ s.strokeInUse - ((x : Int) - s.targetExt j) then
          some (.extend j k x, .unlocking, [.release])
        else none
    else none
  | .bore =>
    match readBore s.node.setup args with
    | some (.bore d f q v) =>
      if s.borePrecheck d then
        some (.bore d f q v, .prepare, [.winchFloat s.node.setup.floatTension, .thrust f])
      else none
    | _ => none
  | .spinOff =>
    (readCycles args).bind fun n =>
      if s.spinClear && holdsAt (s.mirror .crowd) (fun p => p.live && p.showsRun) then
        some (.spinOff n, .prepare, [.winchHold, .crowdHold])
      else none
  | _ => none

/-- R63, R65, R66, R72, R76: the arguments of an operation request are there and in range. -/
def operationArgsRead (row : Instr) (su : Setup) (args : List Byte) : Bool :=
  match row with
  | .lower => (readDepth args).isSome
  | .lift => (readDepth args).isSome
  | .extend => args.isEmpty
  | .bore => (readBore su args).isSome
  | .spinOff => (readCycles args).isSome
  | _ => false

/-- R63, R65, R66, R72, R76: the answer to an operation request that does not start. -/
def State.operationRefused (row : Instr) (s : State) (args : List Byte) : Result × Reason :=
  if operationArgsRead row s.node.setup args = false then (.badArgs, .noReason)
  else if row = .extend ∧ s.trk.state = .tracking ∧ s.rotaryIdle = true then
    (.failed, if s.extendTarget.isSome then .strokeEnd else .extensionEnd)
  else (.refusedInterlock, .noReason)

/-- The rows of a REQUEST that the node owns. -/
def requestRows : List Instr :=
  [.park, .resetNode, .clearFault, .queryPeer, .queryNode, .winchMove, .lower, .lift, .extend, .setDatum,
   .assertPicture, .queryKelly, .crowdMove, .queryCrowd, .rotaryMove, .lock, .release, .bore, .boreStop, .spinOff,
   .queryLocks, .toolOpen, .toolClose, .toolHold, .undefinedFunction]

/-- R171: the rows that a READY, SETUP or STOPPED node refuses and a PARKED one holds. -/
def runRows : List Instr :=
  [.winchMove, .lower, .lift, .extend, .crowdMove, .rotaryMove, .lock, .release, .bore, .boreStop, .spinOff,
   .toolOpen, .toolClose, .toolHold]

end Sys2Proof.Machine
end

