-- ==== Sys2Proof/Certificates/Slice0/Obligations.lean ====
section
/-! DEFINITION. The statements for the provers: what a step, a command and the machine do. -/

section

open Sys2Proof Sys2Proof.Machine

/-! ### The machine -/

/-- A step takes the command at the front of the queue and runs it on the state with the queue's rest (log 1). -/
def Obligations.StepRunsTheFrontCommand : Prop :=
  ∀ (c : Instr) (rest : List Instr) (s : State), s.pending = c :: rest → step s = exec c (s.withPending rest)

/-- With no command waiting a step is one bit time (the model's choice, log 2): the timers run down, the ages up
(R150), what is due is queued, and readings, picture, locks and sharing stand. -/
def Obligations.StepOnAnEmptyQueueIsOneBitTime : Prop :=
  ∀ s : State, s.pending = [] → ∃ t, step s = .next t ∧ t.pending = t.due
    ∧ t.clockUs = (s.clockUs + s.bitUs) % 1000
    ∧ t.node.listen = runDown s.bitUs s.node.listen ∧ t.node.parkTimer = runDown s.bitUs s.node.parkTimer
    ∧ t.drv.timer = runDown s.bitUs s.drv.timer ∧ t.drv.slackTimer = runDown s.bitUs s.drv.slackTimer
    ∧ t.drv.stallTimer = runDown s.bitUs s.drv.stallTimer ∧ t.pub.timer = runDown s.bitUs s.pub.timer
    ∧ t.peers = s.peers.map (Peer.older ((s.clockUs + s.bitUs) / 1000))
    ∧ t.line.queue = s.line.queue ∧ t.req.table = s.req.table ∧ t.node.state = s.node.state
    ∧ t.sens = s.sens ∧ t.trk = s.trk ∧ t.locks = s.locks ∧ t.share = s.share

/-- Every command answers a next state, and its frame: the commands that wait and each part of the block that the
command does not touch are as they were; only the commands that can reset the node replace the whole state, by the state
of a reset. -/
def Obligations.CommandsAnswerAndLeaveWhatTheyDoNotTouch : Prop :=
  ∀ (i : Instr) (s : State), ∃ t, exec i s = .next t ∧
    (s.sameBut i.touches t
      ∨ (i.canReset = true ∧ ∃ cause prior pins, t = State.afterReset cause prior pins s.sens s.pending))

/-- The state after reset is sound, its grant is within its claim, and its joint picture is in order. -/
def Obligations.ResetStateIsSound : Prop := State.reset.sound ∧ State.reset.shareSound ∧ State.reset.pictureSound

/-- Every step keeps the bounds of the queues, tables and counts, and leaves no change signal waiting. -/
def Obligations.EveryStepKeepsTheStateSound : Prop :=
  ∀ s t : State, s.sound → step s = .next t → t.sound

/-- Every step keeps the own published claim that of the own entry, and the own grant within it. -/
def Obligations.EveryStepKeepsTheGrantWithinTheClaim : Prop :=
  ∀ s t : State, s.sound → s.shareSound → step s = .next t → t.shareSound

/-- Every step keeps the winch node's joint picture in order: the stack holds the OPEN joints, their extensions lie
within their slides, and while TRACKING they and the residue make up E, the residue within SLIP_TOL. -/
def Obligations.EveryStepKeepsThePictureInOrder : Prop :=
  ∀ s t : State, s.sound → s.pictureSound → step s = .next t → t.pictureSound

/-! ### Figures and tables -/

/-- R187, R188: the check value of the nine bytes 0x31 to 0x39; and a frame's CRC is computed over KIND, SRC, LEN and
payload: a frame as sent is read back, and one whose check value differs is not. A frame of the node is read back from
its characters with its kind, the node's station as SRC and its payload, and in the shifter it takes 11 × (LEN + 5)
bits. -/
def Obligations.CheckValueOfAFrame : Prop :=
  crc16 [0x31, 0x32, 0x33, 0x34, 0x35, 0x36, 0x37, 0x38, 0x39] = 0x29B1#16
    ∧ (∀ (kind src : Byte) (payload : List Byte), payload.length ≤ 48 →
        frameOfChars (frameChars kind src payload) = some { kind := kind, src := src, payload := payload, waited := 0 })
    ∧ (∀ (kind src hi lo : Byte) (payload : List Byte), payload.length ≤ 48 →
        readU [hi, lo] ≠ (crc16 (kind :: src :: BitVec.ofNat 8 payload.length :: payload)).toNat →
        frameOfChars (kind :: src :: BitVec.ofNat 8 payload.length :: payload ++ [hi, lo]) = none)
    ∧ ∀ (s : State) (f : TxFrame), f.payload.length ≤ 48 →
        (∃ g, frameOfChars (s.sentChars f) = some g ∧ g.kind? = some f.kind ∧ g.src = BitVec.ofNat 8 s.station
            ∧ g.payload = f.payload)
          ∧ (s.line.shifter = some f → s.lineBits.length = 11 * (f.payload.length + 5))

/-- R139: each class in order GUARD, WORK, MOVE is granted in full while its sum fits what is left, else each claim
has its floored part; class none is granted 0. R140: the own grant never exceeds the own published claim, and the grants
of all counted entries together never exceed the capacity. -/
def Obligations.GrantsFollowTheClassesWithinClaimAndCapacity : Prop :=
  (∀ (cap : Nat) (ps : List Peer) (k : Nat),
    let sum := fun c => (classFigures c ps).sum
    let left := fun c rc => rc - ((classFigures c ps).map fun f => if sum c ≤ rc then f else rc * f / sum c).sum
    let share := fun c rc => if sum c ≤ rc then k else rc * k / sum c
    grantOf cap ps { cls := .noClass, kw := k } = 0
      ∧ grantOf cap ps { cls := .guard, kw := k } = share .guard cap
      ∧ grantOf cap ps { cls := .work, kw := k } = share .work (left .guard cap)
      ∧ grantOf cap ps { cls := .move, kw := k } = share .move (left .work (left .guard cap)))
    ∧ (∀ s t : State, s.sound → s.shareSound → step s = .next t → t.share.grant ≤ t.share.ownClaim.kw)
    ∧ ∀ (cap : Nat) (ps : List Peer), ((counted ps).map fun p => grantOf cap ps p.claim).sum ≤ cap

/-- R195: a frame offered to the transmit queue of a node that may queue: a PUBLISH takes the place of a queued
PUBLISH; with room a frame stands behind every frame of its class and of the classes before it; a full queue gives up
its PUBLISH to a frame of another kind; else the new frame is dropped and TX_DROP is the last error. -/
def Obligations.OfferedFramesEnterByClassAndRoom : Prop :=
  ∀ (s : State) (f : TxFrame), s.bounded → s.silenced = false →
    let q := s.line.queue
    let t := s.offer f
    let behind := fun r : List TxFrame => ∃ a b, r = a ++ b ∧ t.line.queue = a ++ f :: b
      ∧ (∀ g ∈ a, g.kind.rank ≤ f.kind.rank) ∧ ∀ g ∈ b, f.kind.rank < g.kind.rank
    (f.kind = .publish → q.any TxFrame.isPublish = true →
        t.line.queue = q.map fun g => if g.kind = .publish then f else g)
      ∧ ((f.kind ≠ .publish ∨ q.any TxFrame.isPublish = false) → q.length < 6 → behind q)
      ∧ (f.kind ≠ .publish → q.any TxFrame.isPublish = true → q.length = 6 → behind (q.filter fun g => g.kind ≠ .publish))
      ∧ (q.any TxFrame.isPublish = false → q.length = 6 → t.line.queue = q ∧ t.line.lastError = .txDrop)

/-! ### Attribution (R6 to R10) -/

/-- R7: a change of the opposite sign cancels residue first; when it is no larger, nothing else moves; when it is
larger, the residue is 0 and the rest goes on to R8 or R9; any other change goes on whole. -/
def Obligations.ResidueIsCancelledFirst : Prop :=
  ∀ (slide : Nat → Nat) (free : Nat → Bool) (c : Int) (t : Tracker),
    let opposite := (0 < c ∧ t.residue < 0) ∨ (c < 0 ∧ 0 < t.residue)
    (opposite → c.natAbs ≤ t.residue.natAbs → t.attribute slide free c = { t with residue := t.residue + c })
      ∧ (opposite → t.residue.natAbs < c.natAbs →
          t.attribute slide free c
            = if 0 < c + t.residue then ({ t with residue := 0 }).increase slide free (c + t.residue).toNat
              else ({ t with residue := 0 }).decrease free (-(c + t.residue)).toNat)
      ∧ (¬opposite → 0 < c → t.attribute slide free c = t.increase slide free c.toNat)
      ∧ (¬opposite → c < 0 → t.attribute slide free c = t.decrease free (-c).toNat)

/-- R8: an increase goes to the FREE top below its slide, up to its headroom; with no such top, to the lowest-numbered
CLOSED FREE joint, which opens and is pushed, up to its slide; what is left goes on by the same order, and with no such
joint it is added to the residue. R9: a decrease comes from the FREE top, which closes and is popped at 0, and then from
the joint beneath; with the stack empty or its top not FREE, what is left is subtracted from the residue. -/
def Obligations.IncreasesAndDecreasesMoveTheJointsInOrder : Prop :=
  ∀ (slide : Nat → Nat) (free : Nat → Bool) (a : Nat) (t : Tracker), t.pictured slide →
    let topTakes := fun j => t.stack.head? = some j ∧ free j = true ∧ (t.joint j).ext < slide j
    let canOpen := fun j => 1 ≤ j ∧ j ≤ t.joints.length ∧ (t.joint j).opened = false ∧ free j = true
    let opened := fun j x : Nat => t.joints.set (j - 1) { opened := true, ext := x }
    t.increase slide free 0 = t ∧ t.decrease free 0 = t
      ∧ (0 < a →
          (∀ j, topTakes j →
              let d := min a (slide j - (t.joint j).ext)
              t.increase slide free a
                = ({ t with joints := opened j ((t.joint j).ext + d) }).increase slide free (a - d))
          ∧ ((∀ j, ¬topTakes j) → ∀ j, canOpen j → (∀ k, canOpen k → j ≤ k) →
              let d := min a (slide j)
              t.increase slide free a
                = ({ t with joints := opened j d, stack := j :: t.stack }).increase slide free (a - d))
          ∧ ((∀ j, ¬topTakes j) → (∀ j, ¬canOpen j) →
              t.increase slide free a = { t with residue := t.residue + a })
          ∧ (t.stack = [] → t.decrease free a = { t with residue := t.residue - a })
          ∧ ∀ j rest, t.stack = j :: rest →
              (free j = false → t.decrease free a = { t with residue := t.residue - a })
                ∧ (free j = true → a < (t.joint j).ext →
                    t.decrease free a = { t with joints := opened j ((t.joint j).ext - a) })
                ∧ (free j = true → (t.joint j).ext ≤ a →
                    t.decrease free a
                      = ({ t with joints := t.joints.set (j - 1) JointRec.closed, stack := rest }).decrease free
                          (a - (t.joint j).ext)))

/-! ### Resets, start-up and the stop line -/

/-- R209: POWER_ON, SUPPLY_DIP and RESET_LINE leave every block at its reset value, in LISTEN with its timer running,
the straps as their pins stand, and the cause with the prior state it gives. That the readings stand is the model's
choice (log 5), that every setup item in force stands at its default its reading (log 14). -/
def Obligations.ResetsLeaveEveryBlockAtItsResetValues : Prop :=
  ∀ (pins : Straps) (s : State),
    (∃ t, exec (.powerOn pins) s = .next t ∧ s.wasReset .powerOn .unknown pins t)
      ∧ (∃ t, exec (.supplyDip pins) s = .next t ∧ s.wasReset .supplyDip .unknown pins t)
      ∧ ∃ t, exec (.resetLine pins) s = .next t
          ∧ s.wasReset .resetLine
              (match s.node.state with
                | .parked => .parked | .stopped => .stopped | .run => .run
                | .listen => .other | .setup => .other | .ready => .other | .fault => .other) pins t

/-- R209: a RESET_NODE that the node takes makes its entry, which stays CLAIMED, and queues its CLAIM; the completion
of that CLAIM resets the node with cause REQUESTED, the readings as they stand by the model's choice (log 5), the setup
items in force at their defaults by its reading (log 14), the strap pins as the last reset with pins left them by its
choice (log 42); with more than the station argument it is replied BAD_ARGS. -/
def Obligations.ResetNodeResetsWhenItsClaimCompletes : Prop :=
  (∀ (s : State) (r : Request), s.asks .resetNode r → s.takesRequest r 1 → s.noResetWaits → s.settled →
      r.args.length = 1 →
      ∃ t, exec .resetNode s = .next t ∧ t.req.table = s.req.table ++ [r.entry s.req.nextId]
        ∧ t.queued [claimFrame (.resetClaim s.req.nextId) r.requester r.tag Fn.resetNode 0]
        ∧ s.sameBut [.rx, .line, .req] t)
    ∧ (∀ (s : State) (r : Request), s.asks .resetNode r → s.takesRequest r 2 → s.noResetWaits → s.sound →
        r.args.length ≠ 1 →
        ∃ t, exec .resetNode s = .next t ∧ s.answers r .badArgs .noReason [] t ∧ s.sameBut [.rx, .line, .req] t)
    ∧ ∀ (s : State) (f : TxFrame) (e : ReqEntry), s.line.shifter = some f → f.owner = .resetClaim e.id →
        e ∈ s.req.table → e.fn = Fn.resetNode → e.state = .claimed →
        (∀ g ∈ s.line.queue, g.owner ≠ .resetClaim e.id) →
        ∃ t, exec .txComplete s = .next t ∧ s.wasReset .requested (priorOf s.node.state) s.node.pins t

/-- R200, R154: at the end of the listen time a node with valid straps enters SETUP and begins to publish; with an
invalid strap it enters FAULT with STRAP_INVALID; with a lower-numbered live entry of its own role, FAULT with
ROLE_CONFLICT. -/
def Obligations.ListenTimeEndsInSetupOrFault : Prop :=
  ∀ s : State, s.node.state = .listen → s.node.listen.isSome = true → s.silenced = false →
    s.node.faults.strapInvalid = false → s.line.queue.length < 6 →
    (s.strapsInvalid = false → s.conflictHeld = false →
        ∃ t, exec .listenTimerExpiry s = .next t ∧ t.node.state = .setup ∧ t.node.listen = none
          ∧ t.node.faults = s.node.faults ∧ t.pub.timer = Timer.ms s.node.setup.pubPeriod ∧ t.publicationQueued
          ∧ s.sameBut [.node, .mode, .drv, .pub, .line] t)
      ∧ (s.strapsInvalid = true →
          ∃ t, exec .listenTimerExpiry s = .next t ∧ t.node.state = .fault ∧ t.node.listen = none
            ∧ t.node.faults.strapInvalid = true)
      ∧ (s.strapsInvalid = false → s.conflictHeld = true →
          ∃ t, exec .listenTimerExpiry s = .next t ∧ t.node.state = .fault ∧ t.node.listen = none
            ∧ t.node.faults.roleConflict = true)

/-- R203, R85, R174, R208: the stop line asserted takes a READY, RUN or PARKED node to STOPPED: the drive and the tool
hold, an operation ends without wind-down, and every entry of the table but a RESET_NODE that awaits its reset is
replied ABORTED and removed; in another state the node stays. Released, a STOPPED node returns to READY and another
stays. The level that the node senses takes in its own pull (R203): a pull not yet sensed brings the assertion at
the end of the bit time, and while the node pulls there is no release (log 29). -/
def Obligations.StopLineStopsTheNodeAndReleasesIt : Prop :=
  ∀ s : State, s.sound →
    (s.sens.stopLine = false →
        ((s.node.state = .ready ∨ s.node.state = .run ∨ s.node.state = .parked) →
          ∃ t, exec .stopLineAsserted s = .next t ∧ t.sens = { s.sens with stopLine := true }
            ∧ t.node.state = .stopped ∧ s.drv.wentToHold s.node.setup.brakeSet t.drv ∧ t.drv.source = none
            ∧ t.drv.tool = .held ∧ s.tableEmptied t
            ∧ (s.node.state = .parked → t.node.park = .notParked ∧ t.node.heldBc = [] ∧ t.drv.supply = true))
          ∧ (s.node.state ≠ .ready → s.node.state ≠ .run → s.node.state ≠ .parked →
              exec .stopLineAsserted s = .next (s.withSens { s.sens with stopLine := true })))
      ∧ (s.pending = [] → s.sens.stopLine = false → s.drivesStopLine = true →
          ∃ t, step s = .next t ∧ .stopLineAsserted ∈ t.pending)
      ∧ (s.drivesStopLine = true → exec .stopLineReleased s = .next s)
      ∧ (s.sens.stopLine = true → s.drivesStopLine = false →
          ∃ t, exec .stopLineReleased s = .next t ∧ t.sens = { s.sens with stopLine := false }
            ∧ t.node.state = (if s.node.state = .stopped then .ready else s.node.state)
            ∧ s.sameBut [.sens, .node, .mode, .drv, .pub, .line] t)

/-! ### Sensors -/

/-- R3, R6, R10, R11: a rope event at a winch node attributes the change while TRACKING; a change whose residue would
pass SLIP_TOL raises a fault with the pull, in UNKNOWN with the picture cleared; while not TRACKING it attributes
nothing. -/
def Obligations.RopeEventAttributesOrFaults : Prop :=
  ∀ (p : Int) (s : State), s.role = some .winch → p ≠ s.sens.payout →
    let after := s.trk.attribute (fun j => (s.geom j).slide) s.freeInMirror (p - s.sens.payout)
    let kind := slipKind (fun j => (s.geom j).slide) (p - s.sens.payout) after
    ∃ t, exec (.ropeEvent p) s = .next t ∧ t.sens = { s.sens with payout := p }
      ∧ (s.trk.state = .tracking → after.residue.natAbs ≤ s.node.setup.slipTol → t.trk = after)
      ∧ (s.trk.state = .tracking → s.node.setup.slipTol < after.residue.natAbs →
          t.trk.state = .unknown ∧ t.trk.stack = [] ∧ t.trk.residue = 0
            ∧ t.trk.joints = s.trk.joints.map (fun _ => JointRec.closed) ∧ t.trk.ropeOffset = s.trk.ropeOffset
            ∧ t.trk.datumOffset = s.trk.datumOffset ∧ t.op = none
            ∧ t.node.faults = s.node.faults.put kind true ∧ t.node.pull = s.node.pull.put kind true
            ∧ (s.hasRoom 1 → t.queued [stopFrame kind]))
      ∧ (s.trk.state ≠ .tracking → t.trk = s.trk)

/-- R104: a tension event below SLACK_TENSION in RUN starts a CLEAR watch; one at or above it clears a TIMING watch; a
RAISED watch stays; nothing else of the node moves. R105, R205: the slack timer's expiry raises SLACK_ROPE: the watch
RAISED, the kind in the fault set and in the pull, so that the node drives the stop line, and a STOP queued that
names it. -/
def Obligations.SlackWatchStartsClearsAndRaises : Prop :=
  (∀ (n : Nat) (s : State), s.role = some .winch → n ≠ s.sens.tension →
    ∃ t, exec (.ropeTensionEvent n) s = .next t ∧ t.sens = { s.sens with tension := n }
      ∧ (n < s.node.setup.slackTension → s.node.state = .run → s.drv.slack = .clear →
          t.drv.slack = .timing ∧ t.drv.slackTimer = Timer.ms s.node.setup.slackTime)
      ∧ (n < s.node.setup.slackTension → (s.node.state ≠ .run ∨ s.drv.slack ≠ .clear) → t.drv = s.drv)
      ∧ (s.node.setup.slackTension ≤ n → s.drv.slack = .timing → t.drv.slack = .clear ∧ t.drv.slackTimer = none)
      ∧ (s.node.setup.slackTension ≤ n → s.drv.slack ≠ .timing → t.drv = s.drv)
      ∧ t.drv.state = s.drv.state ∧ t.drv.mode = s.drv.mode ∧ t.drv.claim = s.drv.claim
      ∧ s.sameBut [.sens, .drv, .pub, .line] t)
    ∧ ∀ s : State, s.drv.slack = .timing → s.drv.slackTimer.isSome = true →
      ∃ t, exec .slackTimerExpiry s = .next t ∧ t.drv.slack = .raised ∧ t.drv.slackTimer = none
        ∧ t.node.faults = s.node.faults.put .slackRope true ∧ t.node.pull = s.node.pull.put .slackRope true
        ∧ t.drivesStopLine = true ∧ (s.hasRoom 1 → t.queued [stopFrame .slackRope])
        ∧ t.drv.state = s.drv.state ∧ t.drv.mode = s.drv.mode
        ∧ s.sameBut [.node, .drv, .pub, .line] t ∧ t.node.state = s.node.state

/-- R15, R16, R17: kelly home becoming active re-zeros a TRACKING tracker, and a SUSPENDED one with the crowd stroke
available; a SUSPENDED one without it becomes UNKNOWN with TRACKING_LOST; an UNKNOWN one with joints and the stroke
re-zeros and tracks, or suspends, by its mirrors. -/
def Obligations.KellyHomeReZerosTheTracker : Prop :=
  ∀ s : State, s.role = some .winch → s.sens.home = false →
    let wrote := fun t : State => t.trk.event
      = (if s.trk.stack ≠ [] ∨ s.E ≠ 0 then
          { kind := .homeCorrection, amount := s.E, seq := (s.trk.event.seq + 1) % 256 } else s.trk.event)
    let zeroed := fun t : State => t.trk.stack = [] ∧ t.trk.residue = 0
      ∧ t.trk.joints = s.trk.joints.map (fun _ => JointRec.closed)
      ∧ t.trk.ropeOffset = s.sens.payout - s.strokeInUse ∧ t.E = 0 ∧ t.trk.datumOffset = s.trk.datumOffset
    ∃ t, exec .kellyHomeActive s = .next t ∧ t.sens = { s.sens with home := true }
      ∧ (s.trk.state = .tracking → zeroed t ∧ t.trk.state = .tracking ∧ wrote t)
      ∧ (s.trk.state = .suspended → s.strokeAvailable = true →
          zeroed t ∧ t.trk.state = .suspended ∧ t.trk.es = 0 ∧ wrote t)
      ∧ (s.trk.state = .suspended → s.strokeAvailable = false →
          t.trk.state = .unknown ∧ t.trk.stack = [] ∧ t.trk.residue = 0
            ∧ t.trk.event = { kind := .trackingLost, amount := 0, seq := (s.trk.event.seq + 1) % 256 })
      ∧ (s.trk.state = .unknown → s.strokeAvailable = true → s.trk.joints ≠ [] →
          zeroed t ∧ t.trk.event = s.trk.event
            ∧ t.trk.state = (if s.bothGood then .tracking else .suspended)
            ∧ (s.bothGood = false → t.trk.es = 0))
      ∧ (s.trk.state = .unknown → (s.strokeAvailable = false ∨ s.trk.joints = []) → t.trk = s.trk)
      ∧ s.sameBut [.sens, .trk, .drv, .pub, .line, .req, .op] t

/-- R15, R92: kelly home becoming inactive, and a crowd force event, change their reading and nothing else. R29: an axis
speed event takes the reading; at a rotary node a speed of 0 brings the direction to REST and leaves the rest of the
Lock Monitor. -/
def Obligations.HomeForceAndSpeedTakeTheirReadings : Prop :=
  ∀ s : State,
    (s.settled → s.role = some .winch → s.sens.home = true →
        exec .kellyHomeInactive s = .next (s.withSens { s.sens with home := false }))
      ∧ (∀ f : Nat, s.settled → s.role = some .crowd → f ≠ s.sens.force →
          exec (.crowdForceEvent f) s = .next (s.withSens { s.sens with force := f }))
      ∧ ∀ v : Int, v ≠ s.sens.speed →
          ∃ t, exec (.axisSpeedEvent v) s = .next t ∧ t.sens = { s.sens with speed := v }
            ∧ t.locks = (if v = 0 ∧ s.role = some .rotary then { s.locks with dir := .rest } else s.locks)
            ∧ t.drv.state = s.drv.state ∧ t.drv.mode = s.drv.mode
            ∧ s.sameBut [.sens, .locks, .drv, .pub, .line] t

/-- R107, R110, R111: at a stroke event an ACTIVE FEED or PULL of a request whose goal is reached ends DONE; whose limit
is reached and goal not, FAILED with STROKE_END; else it goes on. An ACTIVE THRUST ends with STROKE_END at STROKE_MAX.
A drive in another state or mode is left as it was. -/
def Obligations.StrokeEventsEndFeedPullAndThrust : Prop :=
  ∀ (n : Int) (s : State), s.role = some .crowd → n ≠ s.sens.stroke →
    let reached := fun (down : Bool) (target : Option Int) => ∃ g, target = some g ∧ if down then g ≤ n else n ≤ g
    let limit := fun down : Bool => if down then (s.node.setup.strokeMax : Int) ≤ n else n ≤ s.node.setup.strokeMin
    ∃ t, exec (.strokeEvent n) s = .next t ∧ t.sens = { s.sens with stroke := n }
      ∧ (s.drv.state ≠ .active → t.drv = s.drv ∧ t.req = s.req)
      ∧ (∀ e, s.drv.state = .active → s.drv.source = some (.request e.id) → s.entryOf e.id = some e → s.op = none →
          s.hasRoom 1 →
          (∀ v target, s.drv.mode = .feed v target →
              (reached (decide (0 < v)) target → s.modeEnded e .done .noReason t)
                ∧ (¬reached (decide (0 < v)) target → limit (decide (0 < v)) → s.modeEnded e .failed .strokeEnd t)
                ∧ (¬reached (decide (0 < v)) target → ¬limit (decide (0 < v)) → t.drv = s.drv ∧ t.req = s.req))
            ∧ (∀ v target, s.drv.mode = .pull v target →
                (reached false target → s.modeEnded e .done .noReason t)
                  ∧ (¬reached false target → limit false → s.modeEnded e .failed .strokeEnd t)
                  ∧ (¬reached false target → ¬limit false → t.drv = s.drv ∧ t.req = s.req))
            ∧ ∀ f, s.drv.mode = .thrust f →
                (limit true → s.modeEnded e .failed .strokeEnd t) ∧ (¬limit true → t.drv = s.drv ∧ t.req = s.req))
      ∧ s.sameBut [.sens, .drv, .pub, .line, .req, .op] t

/-- R29, R30: the travel counts and the direction at an angle event of a rotary node, in every node state; a speed
event changes neither count, and every reset kind leaves both 0. -/
def Obligations.AngleEventsCountTravel : Prop :=
  (∀ (c : Int) (s : State), s.role = some .rotary → c ≠ 0 →
      ∃ t, exec (.angleEvent c) s = .next t ∧ t.sens = { s.sens with angle := s.sens.angle + c }
        ∧ (0 < c → t.locks.dir = .forward ∧ t.locks.rev = 0
            ∧ (s.locks.dir ≠ .forward → t.locks.fwd = min c.toNat 32767)
            ∧ (s.locks.dir = .forward → t.locks.fwd = min (s.locks.fwd + c.toNat) 32767))
        ∧ (c < 0 → t.locks.dir = .reverse ∧ t.locks.fwd = s.locks.fwd
            ∧ t.locks.rev = min (s.locks.rev + (-c).toNat) 32767)
        ∧ s.sameBut [.sens, .locks, .drv, .pub, .line, .req, .op] t)
    ∧ (∀ (v : Int) (s t : State), exec (.axisSpeedEvent v) s = .next t →
        t.locks.fwd = s.locks.fwd ∧ t.locks.rev = s.locks.rev)
    ∧ (∀ (row : Instr) (pins : Straps) (s t : State), row ∈ [Instr.powerOn pins, .supplyDip pins, .resetLine pins] →
        exec row s = .next t → t.locks.fwd = 0 ∧ t.locks.rev = 0)
    ∧ ∀ (cause : ResetCause) (prior : PriorState) (pins : Straps) (sens : Sensors) (waiting : List Instr),
        (State.afterReset cause prior pins sens waiting).locks.fwd = 0
          ∧ (State.afterReset cause prior pins sens waiting).locks.rev = 0

/-- R35: with the watch OPEN, a clockwise event that takes forward travel above LOCK_ANGLE ends it in a miss: CLOSED,
records and validity as they stand, a MISS event with the travel, and an ACTIVE LOCK of a request whose turn the watch
is of ends LOCK_MISS; forward travel equal to LOCK_ANGLE does not end it. After the miss travel goes on counting, and a
torque event finds the watch CLOSED. That the event of a forward start is judged so too is the model's reading (log
15), as is which watch is that of a LOCK's turn (log 16). -/
def Obligations.ForwardTravelPastLockAngleIsAMiss : Prop :=
  ∀ (c : Int) (s : State), s.role = some .rotary → 0 < c → s.locks.watch = true →
    let travelled := min ((if s.locks.dir = .forward then s.locks.fwd else 0) + c.toNat) 32767
    (s.node.setup.lockAngle < travelled →
        ∃ t, exec (.angleEvent c) s = .next t ∧ t.locks.watch = false ∧ t.locks.fwd = travelled
          ∧ t.locks.records = s.locks.records ∧ t.locks.known = s.locks.known
          ∧ t.locks.event = { kind := .miss, travel := travelled, seq := (s.locks.event.seq + 1) % 256 }
          ∧ (∀ e, s.drv.mode = .lock → s.drv.state = .active → s.locks.watchOfTurn = true →
              s.drv.source = some (.request e.id) → s.entryOf e.id = some e → s.hasRoom 1 →
              s.modeEnded e .failed .lockMiss t)
          ∧ (∀ (d : Int) (u : State), 0 < d → exec (.angleEvent d) t = .next u →
              u.locks.fwd = min (travelled + d.toNat) 32767)
          ∧ ∀ (q : Int) (u : State), exec (.torqueEvent q) t = .next u → u.locks = t.locks)
      ∧ (travelled ≤ s.node.setup.lockAngle →
          ∃ t, exec (.angleEvent c) s = .next t ∧ t.locks.watch = true ∧ t.locks.fwd = travelled
            ∧ t.locks.records = s.locks.records ∧ t.locks.known = s.locks.known ∧ t.locks.event = s.locks.event)

/-- R36, R37: an anticlockwise event that takes reverse travel above RELEASE_ANGLE frees every joint, makes validity
KNOWN and writes RELEASED; one that starts above it releases nothing more. -/
def Obligations.ReverseTravelPastReleaseAngleFreesEveryJoint : Prop :=
  ∀ (c : Int) (s : State), s.role = some .rotary → c < 0 → s.locks.records ≠ [] →
    let travelled := min (s.locks.rev + (-c).toNat) 32767
    ∃ t, exec (.angleEvent c) s = .next t ∧ t.locks.rev = travelled ∧ t.locks.watch = false
      ∧ (s.locks.rev ≤ s.node.setup.releaseAngle → s.node.setup.releaseAngle < travelled →
          t.locks.records = s.locks.records.map (fun _ => none) ∧ t.locks.known = true
            ∧ t.locks.event = { kind := .released, travel := travelled, seq := (s.locks.event.seq + 1) % 256 })
      ∧ ((s.node.setup.releaseAngle < s.locks.rev ∨ travelled ≤ s.node.setup.releaseAngle) →
          t.locks.records = s.locks.records ∧ t.locks.known = s.locks.known ∧ t.locks.event = s.locks.event)

/-- R32, R33, R34: a torque event at SEAT_TORQUE with the watch OPEN within LOCK_ANGLE is a seat event: with good
geometry each FREE joint becomes SEATED at its aligned pocket and validity KNOWN; with stale geometry the records stand
and validity is UNKNOWN; any other torque event leaves the monitor. -/
def Obligations.SeatEventsSeatTheAlignedJoints : Prop :=
  ∀ (q : Int) (s : State), s.role = some .rotary → q ≠ s.sens.torque →
    let seat := s.locks.watch = true ∧ (s.node.setup.seatTorque : Int) ≤ q ∧ s.locks.fwd ≤ s.node.setup.lockAngle
    ∃ t, exec (.torqueEvent q) s = .next t ∧ t.sens = { s.sens with torque := q }
      ∧ (seat → s.goodGeometry = true →
          t.locks.known = true ∧ t.locks.watch = false
            ∧ t.locks.event = { kind := .seated, travel := s.locks.fwd, seq := (s.locks.event.seq + 1) % 256 }
            ∧ t.locks.records.length = s.locks.records.length
            ∧ ∀ i, i < s.locks.records.length →
                t.locks.records[i]? = some (match s.locks.records.getD i none with
                  | some k => some k
                  | none => (s.geom (i + 1)).alignedPocket (s.locks.pocketCounts.getD i 0) (s.winchExt (i + 1))))
      ∧ (seat → s.goodGeometry = false →
          t.locks.known = false ∧ t.locks.watch = false ∧ t.locks.records = s.locks.records
            ∧ t.locks.event = { kind := .geometryStale, travel := s.locks.fwd, seq := (s.locks.event.seq + 1) % 256 })
      ∧ (¬seat → t.locks = s.locks)
      ∧ s.sameBut [.sens, .locks, .drv, .pub, .line, .req, .op] t

/-! ### Timers -/

/-- R78: the release timer's expiry takes the drive to ACTIVE in its mode, where the mode's entry check may end it at
once. TURN, LOCK, BORE and SPIN have none. HAUL ends at kelly home or on a SEATED top joint, with both at home by the
model's choice (log 37); PAY without tracking, at
MAX_DEPTH, or without room; FEED and PULL at their goal, else at their stroke limit; THRUST at STROKE_MAX; RELEASE with
reverse travel at its end figure; and a FLOAT that begins the pull of an EXTEND ends with it where the pull would pass
STROKE_MIN. An ended mode goes to HOLD through SETTING and its request is replied, or its operation ends. -/
def Obligations.BrakeReleaseEntersActive : Prop :=
  ∀ s : State, s.drv.state = .releasing → s.drv.timer.isSome = true →
    let reached := fun (down : Bool) (target : Option Int) =>
      ∃ g, target = some g ∧ if down then g ≤ s.sens.stroke else s.sens.stroke ≤ g
    let limit := fun down : Bool =>
      if down then (s.node.setup.strokeMax : Int) ≤ s.sens.stroke else s.sens.stroke ≤ s.node.setup.strokeMin
    let passes := fun o : OpRecord => ∃ j k x, o.spec = .extend j k x ∧ o.phase = .tensioning
      ∧ s.strokeInUse - ((x : Int) - s.targetExt j) < s.node.setup.strokeMin
    ∃ t, exec .brakeReleaseExpiry s = .next t
      ∧ (((∃ v, s.drv.mode = .turn v) ∨ s.drv.mode = .lock ∨ (∃ v q, s.drv.mode = .bore v q)
            ∨ ∃ n, s.drv.mode = .spin n) → s.becameActive t)
      ∧ (∀ v, s.drv.mode = .haul v →
          (s.sens.home = true → s.endedItself .done .home t)
            ∧ (s.sens.home = false → s.topSeated = true → s.endedItself .failed .topSeated t)
            ∧ (s.sens.home = false → s.topSeated = false → s.becameActive t))
      ∧ (∀ v, s.drv.mode = .pay v →
          (s.trk.state ≠ .tracking → s.payLost t)
            ∧ (s.trk.state = .tracking → s.node.setup.maxDepth ≤ s.D → s.endedItself .failed .depthLimit t)
            ∧ (s.trk.state = .tracking → s.D < s.node.setup.maxDepth → s.room = 0 →
                s.endedItself .failed .extensionEnd t)
            ∧ (s.trk.state = .tracking → s.D < s.node.setup.maxDepth → s.room ≠ 0 → s.becameActive t))
      ∧ (∀ v, s.drv.mode = .float v →
          ((∀ o, s.op = some o → ¬passes o) → s.becameActive t)
            ∧ ∀ o e, s.runsFor o e → passes o → s.opEnded e o.subs .failed .strokeEnd t)
      ∧ (∀ target down, ((∃ v, s.drv.mode = .feed v target ∧ down = decide (0 < v))
            ∨ (∃ v, s.drv.mode = .pull v target) ∧ down = false) →
          (reached down target → s.endedItself .done .noReason t)
            ∧ (¬reached down target → limit down → s.endedItself .failed .strokeEnd t)
            ∧ (¬reached down target → ¬limit down → s.becameActive t))
      ∧ (∀ f, s.drv.mode = .thrust f →
          (limit true → s.endedItself .failed .strokeEnd t) ∧ (¬limit true → s.becameActive t))
      ∧ (s.drv.mode = .release →
          (s.node.setup.releaseAngle + 50 ≤ s.locks.rev → s.endedItself .done .noReason t)
            ∧ (s.locks.rev < s.node.setup.releaseAngle + 50 → s.becameActive t))
      ∧ s.sameBut [.locks, .drv, .req, .op, .pub, .line] t

/-- R78, R82: the set timer's expiry takes the drive to HELD, and a HOLD request that waited is replied DONE; with a
pending mode it takes it to RELEASING toward that mode. -/
def Obligations.BrakeSetEntersHeldOrThePendingMode : Prop :=
  ∀ s : State, s.drv.state = .setting → s.drv.timer.isSome = true →
    ∃ t, exec .brakeSetExpiry s = .next t
      ∧ (s.drv.pending = none → t.drv.state = .held ∧ t.drv.timer = none ∧ t.drv.mode = s.drv.mode
          ∧ ∀ e, s.drv.source = some (.request e.id) → s.entryOf e.id = some e → s.hasRoom 1 →
              t.drv.source = none ∧ t.replied e .done .noReason)
      ∧ (∀ m, s.drv.pending = some m → t.drv.state = .releasing ∧ t.drv.mode = m ∧ t.drv.pending = none
          ∧ t.drv.timer = Timer.ms s.node.setup.brakeRelease ∧ t.req = s.req)
      ∧ s.sameBut [.drv, .req, .pub, .line] t

/-- R122, R124, R126, R127, R132: the stall timer's expiry in BORE counts a stall and begins a recovery, or ends
STALLED past STALL_TRIES; in the reverse phase it ends STALLED without a count; in the restart phase the bore resumes or
ends RELOCK_FAILED by the bore lock condition; in SPIN it ends STALLED. -/
def Obligations.StallExpiryRecoversOrEnds : Prop :=
  ∀ (s : State) (e : ReqEntry), s.drv.stall = .timing → s.drv.stallTimer.isSome = true → s.drv.state = .active →
    s.drv.source = some (.request e.id) → s.entryOf e.id = some e → s.op = none → s.hasRoom 1 →
    ∃ t, exec .stallTimerExpiry s = .next t
      ∧ (∀ v q, s.drv.mode = .bore v q →
          (s.drv.recovery = .boring → s.drv.attempts + 1 ≤ s.node.setup.stallTries →
              t.drv.mode = .bore v q ∧ t.drv.state = .active ∧ t.drv.attempts = s.drv.attempts + 1
                ∧ t.drv.recovery = (if s.node.setup.reverseAngle ≤ s.locks.rev then .restarting else .reversing)
                ∧ t.drv.source = s.drv.source ∧ t.req = s.req)
            ∧ (s.drv.recovery = .boring → s.node.setup.stallTries < s.drv.attempts + 1 →
                s.modeEnded e .failed .stalled t ∧ t.drv.attempts = s.drv.attempts + 1)
            ∧ (s.drv.recovery = .reversing →
                s.modeEnded e .failed .stalled t ∧ t.drv.attempts = s.drv.attempts ∧ t.drv.recovery = .boring)
            ∧ (s.drv.recovery = .restarting → s.boreLock = true →
                t.drv.mode = .bore v q ∧ t.drv.state = .active ∧ t.drv.recovery = .boring
                  ∧ t.drv.attempts = s.drv.attempts ∧ t.req = s.req)
            ∧ (s.drv.recovery = .restarting → s.boreLock = false →
                s.modeEnded e .failed .relockFailed t ∧ t.drv.attempts = s.drv.attempts))
      ∧ (∀ n, s.drv.mode = .spin n →
          s.modeEnded e .failed .stalled t ∧ t.drv.spin = Spin.unused ∧ t.drv.attempts = s.drv.attempts)
      ∧ t.locks = s.locks ∧ s.sameBut [.drv, .req, .op, .pub, .line] t

/-- R159, R160: the periodic timer's expiry starts it again with the declared period, and a node that publishes queues
one PUBLISH of its state. -/
def Obligations.PeriodicExpiryPublishesTheState : Prop :=
  ∀ s : State, s.pub.timer.isSome = true →
    ∃ t, exec .periodicTimerExpiry s = .next t
      ∧ t.pub.timer = Timer.ms (if s.node.state = .parked then 1000 else s.node.setup.pubPeriod)
      ∧ (s.canPublish = true → (s.line.queue.length < 6 ∨ s.publishQueued = true) → t.publicationQueued)
      ∧ (s.canPublish = false → t.line = s.line)
      ∧ s.sameBut [.pub, .line] t

/-- R150, R142: an aging step takes a FRESH entry whose age exceeds twice its declared period to AGED, and an AGED one
whose age exceeds LOST_MULT times it to LOST, its age and snapshot kept, and the sharing is recomputed; it does not
occur for any other entry. R151: what it hands on suspends or resumes the tracker of a winch node
(R12 to R14) and withholds or restores thrust (R113). -/
def Obligations.AgingStepsLowerThePresence : Prop :=
  ∀ (n : Nat) (s : State),
    let passed := fun p : Peer => (p.presence = .fresh ∧ 2 * p.period < p.age)
      ∨ (p.presence = .aged ∧ s.node.setup.lostMult * p.period < p.age)
    (∀ p, entryAt n s.peers = some p → passed p →
        ∃ t q, exec (.agingStep n) s = .next t ∧ entryAt n t.peers = some q
          ∧ q.presence = (if p.presence = .fresh then .aged else .lost) ∧ q.snap = p.snap ∧ q.role = p.role
          ∧ q.period = p.period ∧ q.age = p.age ∧ (∀ k, k ≠ n → entryAt k t.peers = entryAt k s.peers)
          ∧ t.share.capacity = capacityIn s.node.setup.capFallback t.peers
          ∧ t.share.grant
            = (if s.share.ownClaim.cls = .noClass then 0 else ownGrant s.station t.share.capacity t.peers)
          ∧ s.handedOn t ∧ t.node.state = s.node.state)
      ∧ (s.settled → (∀ p, entryAt n s.peers = some p → ¬passed p) →
          exec (.agingStep n) s = .next s)

/-- R50, R52, R53, R54, R69: the send bound of a REQUEST not in the shifter, the start and reply deadlines and the
publication wait end the operation TIMEOUT; the slow window ends it NO_CLAIM or NO_OWNER, and leaves a POSITIVE entry;
a send bound that runs out in the shifter waits for the attempt. An end queues the HOLDs of the entries still acting and
withdraws the REQUESTs not yet sent (R57, R61). -/
def Obligations.SubRequestTimersEndTheOperation : Prop :=
  ∀ (s : State) (o : OpRecord) (e : ReqEntry), s.runsFor o e →
    (∀ (tag : Nat) (x : SubEntry), s.subWith tag = some x →
        (x.sendBound.isSome = true → s.requestInShifter tag = false →
            ∃ t, exec (.sendBoundExpiry tag) s = .next t ∧ s.opEnded e o.subs .failed .timeout t)
          ∧ (x.sendBound.isSome = true → s.requestInShifter tag = true →
              ∃ t y, exec (.sendBoundExpiry tag) s = .next t ∧ t.subWith tag = some y ∧ y.sendBound = none
                ∧ y.sendExpired = true ∧ s.sameBut [.op, .pub, .line] t)
          ∧ (x.slow.isSome = true → x.claim = .unclaimed →
              ∃ t, exec (.subRequestSlowWindowEnd tag) s = .next t ∧ s.opEnded e o.subs .failed .noClaim t)
          ∧ (x.slow.isSome = true → x.claim = .default →
              ∃ t, exec (.subRequestSlowWindowEnd tag) s = .next t ∧ s.opEnded e o.subs .failed .noOwner t)
          ∧ (x.slow.isSome = true → x.claim = .positive →
              ∃ t y, exec (.subRequestSlowWindowEnd tag) s = .next t ∧ t.subWith tag = some y
                ∧ y = { x with slow := none } ∧ s.sameBut [.op, .pub, .line] t)
          ∧ (x.what.continuing = true → x.deadline.isSome = true → x.startStatus = .waiting →
              ∃ t, exec (.startDeadlineExpiry tag) s = .next t ∧ s.opEnded e o.subs .failed .timeout t)
          ∧ (x.what.continuing = false → x.deadline.isSome = true →
              ∃ t, exec (.replyDeadlineExpiry tag) s = .next t ∧ s.opEnded e o.subs .failed .timeout t))
      ∧ (o.pubWait.isSome = true → ∃ t, exec .publicationWaitExpiry s = .next t ∧ s.opEnded e o.subs .failed .timeout t)

/-- R207, R208: the entry timer's expiry settles the parked node and replies the PARK DONE, or, interrupted, replies
PARK_INTERRUPTED and begins the wake; the wake timer's expiry, with nothing held, returns the node to the state it was parked
from. -/
def Obligations.ParkTimersSettleAndWake : Prop :=
  ∀ s : State, s.node.parkTimer.isSome = true →
    (∀ e, s.node.park = .entering → s.parkEntry = some e → s.hasRoom 1 →
        ∃ t, exec .parkEntryTimerExpiry s = .next t
          ∧ (s.node.interrupted = false → t.node.park = .settled ∧ t.node.parkTimer = none
              ∧ t.drv.supply = s.drv.supply ∧ t.replied e .done .noReason)
          ∧ (s.node.interrupted = true → t.node.park = .waking ∧ t.node.parkTimer = Timer.ms 100
              ∧ t.drv.supply = true ∧ t.replied e .parkInterrupted .noReason)
          ∧ t.node.state = s.node.state)
      ∧ (s.node.park = .waking → s.node.heldBc = [] → (∀ e ∈ s.req.table, e.state ≠ .claimed) →
          ∃ t, exec .wakeTimerExpiry s = .next t ∧ t.node.park = .notParked ∧ t.node.parkTimer = none
            ∧ t.node.state = (if s.node.returnRun then .run else .ready) ∧ t.req.table = s.req.table)

/-! ### The rig line -/

/-- R187, R189: a character without error opens a frame for a HUNTING receiver, joins the frame of one that is
IN_FRAME, and is passed over while SKIPPING; a LEN above 48 is a LENGTH error. That the quiet count is 0 at the end of
each character is the model's reading (log 22). -/
def Obligations.CharactersJoinTheFrame : Prop :=
  ∀ (c : Byte) (s : State), s.receives = true → s.settled → s.noResetWaits →
    ∃ t, exec (.characterReceived c) s = .next t
      ∧ (s.line.rx = .hunting → t.line = { s.line with rx := .inFrame, chars := [c], quiet := 0 })
      ∧ (s.line.rx = .skipping → t.line = { s.line with rx := .skipping, chars := [], quiet := 0 })
      ∧ (s.line.rx = .inFrame → s.line.chars.length = 2 → 48 < c.toNat →
          t.line.rx = .skipping ∧ s.errorCounted .length t)
      ∧ (s.line.rx = .inFrame → (s.line.chars.length ≠ 2 ∨ c.toNat ≤ 48) → s.lastCharacter = false →
          t.line = { s.line with chars := s.line.chars ++ [c], quiet := 0 })
      ∧ s.sameBut [.rx, .line, .req] t

/-- R186, R189, R190: a character of even parity is a PARITY error, one of odd parity with a stop bit of 0 a FRAMING
error: the receiver skips, the error run grows, the good run is 0, and the 16th error in a row in NORMAL makes the line
LISTEN_ONLY, where no default record is kept (R180). A SKIPPING receiver counts nothing; that the quiet count is 0 at
the end of each character is the model's reading (log 22). -/
def Obligations.CharacterErrorsSkipTheFrame : Prop :=
  ∀ (c : Byte) (parity stop : Bool) (s : State), s.receives = true → s.settled → s.noResetWaits →
    (parityOdd c parity = false ∨ stop = false) →
    ∃ t, exec (.characterError c parity stop) s = .next t ∧ t.line.rx = .skipping
      ∧ (s.line.rx ≠ .skipping →
          s.errorCounted (if parityOdd c parity then .framing else .parity) t)
      ∧ (s.line.rx = .skipping → t.line = { s.line with chars := [], quiet := 0 })
      ∧ s.sameBut [.rx, .line, .req] t

/-- R186, R187, R189: more than 22 recessive bit times IN_FRAME are a TRUNCATED error; ten end SKIPPING; a noise pulse
restarts the quiet count alone. That this count is the one of TRUNCATED too, so that a pulse IN_FRAME restarts it, is the
model's choice (log 51). -/
def Obligations.QuietEndsTheReceiversStates : Prop :=
  ∀ (n : Nat) (s : State), s.receives = true → s.settled → s.noResetWaits →
    (s.line.rx = .inFrame → 22 < s.line.quiet + n →
        ∃ t, exec (.truncated n) s = .next t ∧ t.line.rx = .hunting ∧ s.errorCounted .truncated t
          ∧ t.line.quiet = s.line.quiet + n
          ∧ s.sameBut [.rx, .line, .req] t)
      ∧ (s.line.rx = .skipping → 10 ≤ s.line.quiet + n →
          ∃ t, exec (.skipQuietEnd n) s = .next t
            ∧ t.line = { s.line with rx := .hunting, chars := [], quiet := s.line.quiet + n }
            ∧ s.sameBut [.rx, .line] t)
      ∧ exec .noisePulse s = .next (s.withLine { s.line with quiet := 0 })

/-- R188, R189, R190, R191, R155: the last character completes the frame: with a CRC that does not match it is a CRC
error, the 16th in a row making the line LISTEN_ONLY; a good frame is counted, the 8th in a row making a LISTEN_ONLY line
NORMAL; one of another station is stored, or lost to OVERRUN with two held; one that carries the node's own station number
puts it in FAULT with DUPLICATE_STATION and empties its queue. R182, R183: a CLAIM or REPLY of another station settles
the default records of its requester and tag, stored or lost; that a CLAIM whose kind is neither 0 nor 1 settles none is
the model's choice (log 40), as is that one with bytes after its four settles by those four (log 46). -/
def Obligations.FramesCompleteOrFailTheirCheck : Prop :=
  ∀ (c : Byte) (s : State), s.receives = true → s.settled → s.noResetWaits → s.line.rx = .inFrame →
    s.lastCharacter = true →
    (frameOfChars (s.line.chars ++ [c]) = none →
        ∃ t, exec (.frameComplete c) s = .next t ∧ t.line.rx = .hunting ∧ s.errorCounted .crc t
          ∧ t.line.hold = s.line.hold)
      ∧ ∀ f, frameOfChars (s.line.chars ++ [c]) = some f →
          ∃ t, exec (.frameComplete c) s = .next t ∧ t.line.rx = .hunting ∧ s.goodFrameCounted t
            ∧ (s.ownSource f = false → ∀ who tag, s.settledBy f who tag → s.recordsSettled who tag t)
            ∧ (s.ownSource f = false → (∀ who tag, ¬s.settledBy f who tag) →
                t.req = s.req ∧ t.line.queue = s.line.queue ∧ t.line.shifter = s.line.shifter)
            ∧ (s.ownSource f = false → s.line.hold.length < 2 → t.line.hold = s.line.hold ++ [f])
            ∧ (s.ownSource f = false → 2 ≤ s.line.hold.length →
                t.line.hold = s.line.hold ∧ t.line.lastError = .overrun)
            ∧ (s.ownSource f = true → t.node.state = .fault ∧ t.node.faults.duplicateStation = true
                ∧ t.line.queue = [] ∧ t.pub.timer = none ∧ t.req.defaults = [] ∧ t.line.hold = s.line.hold)

/-- R192: the frame at the head of the queue starts when the shifter is empty, the receiver hunts, the node may
transmit and the line has been quiet for the gap of its class; else nothing starts. -/
def Obligations.TransmissionStartsAfterTheQuietGap : Prop :=
  ∀ (n : Nat) (s : State), s.settled →
    (∀ f rest, s.line.queue = f :: rest → s.line.shifter = none → s.line.rx = .hunting → s.mayTransmit = true →
        f.kind.gap ≤ s.line.quiet + n →
        exec (.transmitStart n) s
          = .next (s.withLine { s.line with queue := rest, shifter := some f, quiet := s.line.quiet + n }))
      ∧ ((s.line.queue = [] ∨ s.line.shifter ≠ none ∨ s.line.rx ≠ .hunting ∨ s.mayTransmit = false
            ∨ ∃ f rest, s.line.queue = f :: rest ∧ s.line.quiet + n < f.kind.gap) →
          exec (.transmitStart n) s = .next (s.withLine { s.line with quiet := s.line.quiet + n }))

/-- R193, R194, R196: a frame that loses arbitration returns to the head of its class, and a withdrawn one is discarded;
a PUBLISH returns unless a newer one is queued. A read-back failure does the same, makes the line LINE_FAULT, in which no
default record and no frame of one is kept (R180), and sets LINE_FAULT in the fault set; the change queues a PUBLISH of
the state, in the place of a returned one. -/
def Obligations.LostFramesReturnToTheHeadOfTheirClass : Prop :=
  ∀ (s : State) (f : TxFrame), s.line.shifter = some f → s.settled → s.noResetWaits → s.sendRanOut f = false →
    let others := s.line.queue.filter fun g => !g.isPublish && g.owner.record.isNone
    let faulted := fun t : State => t.line.shifter = none ∧ t.line.state = .lineFault
      ∧ t.node.faults = s.node.faults.put .lineFault true ∧ t.node.state = s.node.state ∧ t.req.defaults = []
      ∧ s.sameBut [.rx, .node, .line, .req, .pub] t
    (f.withdrawn = true → ∃ t, exec .arbitrationLost s = .next t ∧ t.line.shifter = none
        ∧ t.line.queue = s.line.queue ∧ s.sameBut [.rx, .line] t)
      ∧ (f.withdrawn = false → f.kind ≠ .publish → s.hasRoom 1 →
          (∃ t a b, exec .arbitrationLost s = .next t ∧ t.line.shifter = none ∧ s.line.queue = a ++ b
            ∧ t.line.queue = a ++ f :: b ∧ (∀ g ∈ a, g.kind.rank < f.kind.rank)
            ∧ (∀ g ∈ b.head?, f.kind.rank ≤ g.kind.rank) ∧ s.sameBut [.rx, .line] t)
          ∧ (f.owner.record = none → s.bounded →
              ∃ t a b, exec .readBackFailure s = .next t ∧ faulted t ∧ others = a ++ b
                ∧ (t.line.queue.filter fun g => !g.isPublish) = a ++ f :: b
                ∧ (∀ g ∈ a, g.kind.rank < f.kind.rank) ∧ ∀ g ∈ b.head?, f.kind.rank ≤ g.kind.rank))
      ∧ ((f.withdrawn = true ∨ f.owner.record ≠ none) →
          ∃ t, exec .readBackFailure s = .next t ∧ faulted t
            ∧ (t.line.queue.filter fun g => !g.isPublish) = others)
      ∧ (f.kind = .publish → f.owner.record = none → s.canPublish = true → s.node.faults.lineFault = false →
          (s.line.queue.length < 6 ∨ s.publishQueued = true) →
          ∃ t, exec .readBackFailure s = .next t ∧ faulted t ∧ t.publicationQueued
            ∧ (t.line.queue.filter fun g => !g.isPublish) = others)
      ∧ (f.withdrawn = false → f.kind = .publish → s.silenced = false → s.line.queue.length < 6 →
          ∃ t, exec .arbitrationLost s = .next t ∧ t.line.shifter = none
            ∧ (s.publishQueued = true → t.line.queue = s.line.queue)
            ∧ (s.publishQueued = false → t.queued [f]))

/-- R191, R189: a completed frame of the node leaves the shifter, and counts as a good frame. R137, R153, R159: the
completion of an own PUBLISH fills the own entry from its contents, takes its claim as the own published claim,
restarts the periodic timer and recomputes the sharing. R50, R52, R61: that of a sub-request's REQUEST marks its entry
sent, stops its send bound and starts its slow window and its deadline; that of a withdrawn one queues a HOLD for its
role. R181: that of a DEFAULT CLAIM queues the NO_OWNER REPLY of its record, that of this REPLY removes the record. -/
def Obligations.CompletedPublishFillsTheOwnEntry : Prop :=
  ∀ (s : State) (f : TxFrame), s.line.shifter = some f → s.noResetWaits →
    ∃ t, exec .txComplete s = .next t ∧ t.line.shifter = none ∧ s.goodFrameCounted t
      ∧ (∀ tag role x, f.owner = .subRequest tag role → f.withdrawn = false → s.subWith tag = some x →
          t.subWith tag = some { x with sent := true, sendBound := none, sendExpired := false
                                        slow := some (1200 * s.bitUs), deadline := Timer.ms x.what.deadline })
      ∧ (∀ tag role, f.owner = .subRequest tag role → f.withdrawn = true → s.hasRoom 1 →
          t.queued [requestFrame .windDown (holdFor role).fn s.req.tagCtr ((holdFor role).args s.node.setup)])
      ∧ (∀ n r, f.owner = .defaultClaim n → s.recordOf n = some r → s.hasRoom 1 →
          t.recordOf n = some { r with status := .replyQueued }
            ∧ t.queued (replyFrames (.defaultReply n) r.requester r.tag r.fn .noOwner .noReason []))
      ∧ (∀ n, f.owner = .defaultReply n → t.recordOf n = none)
      ∧ (∀ n p, f.owner = .publication n → readPublication f.payload = some p → s.silenced = false →
          entryAt s.station t.peers
              = some { station := s.station, presence := .fresh, role := p.role, period := p.period, age := 0,
                       snap := p.snap }
            ∧ (∀ k, k ≠ s.station → entryAt k t.peers = entryAt k s.peers)
            ∧ t.share.ownClaim = (acceptedPeer s.station p).claim
            ∧ t.pub.timer = Timer.ms s.declaredPeriod
            ∧ t.share.capacity = capacityIn s.node.setup.capFallback t.peers
            ∧ t.share.grant = (if t.share.ownClaim.cls = .noClass then 0
                else ownGrant s.station t.share.capacity t.peers))

/-! ### Frames handled -/

/-- R149, R142: a PUBLISH that passes its checks makes the entry of its station FRESH with age 0, its role, period and
contents, and the sharing is recomputed; one that fails them is discarded and changes nothing else. R151: what it hands
on suspends or resumes the tracker of a winch node (R12 to R14) and withholds or restores thrust (R113), and no aging
step of the entry occurs after it. R154: one of
the node's own role from a lower station, past LISTEN, puts the node in FAULT with ROLE_CONFLICT; any other leaves the
node state. -/
def Obligations.AcceptedPublicationsFillTheirEntry : Prop :=
  ∀ (s : State) (f : RxFrame), s.heads .publishHandled f →
    (∀ p, s.acceptable f = some p →
        ∃ t, exec .publishHandled s = .next t ∧ t.line.hold = s.line.hold.tail
          ∧ entryAt f.src.toNat t.peers
              = some { station := f.src.toNat, presence := .fresh, role := p.role, period := p.period, age := 0,
                       snap := p.snap }
          ∧ (∀ k, k ≠ f.src.toNat → entryAt k t.peers = entryAt k s.peers)
          ∧ t.share.capacity = capacityIn s.node.setup.capFallback t.peers
          ∧ t.share.ownClaim = s.share.ownClaim
          ∧ t.share.grant = (if s.share.ownClaim.cls = .noClass then 0
              else ownGrant s.station t.share.capacity t.peers)
          ∧ s.handedOn t
          ∧ (let conflict := s.node.state ≠ .listen ∧ s.role = some p.role ∧ f.src.toNat < s.station
             (conflict → t.node.state = .fault ∧ t.node.faults.roleConflict = true)
               ∧ (¬conflict → t.node.state = s.node.state))
          ∧ exec (.agingStep f.src.toNat) t = .next t)
      ∧ (s.acceptable f = none → s.settled → exec .publishHandled s = .next s.dropHeld)

/-- R51: how the entry of a sub-request follows a CLAIM that names its station and tag; a CLAIM that names another
station changes nothing. That a CLAIM with bytes after its four is taken by those four is the model's choice (log 46). -/
def Obligations.ClaimsAreFollowedByTheLowestPositiveClaimant : Prop :=
  ∀ (s : State) (f : RxFrame) (c : ClaimFrame), s.heads .claimHandled f → f.claim? = some c → s.settled →
    (c.requester ≠ s.station → exec .claimHandled s = .next s.dropHeld)
      ∧ ∀ x, c.requester = s.station → s.subWith c.tag = some x →
          ∃ t y, exec .claimHandled s = .next t ∧ t.subWith c.tag = some y ∧ y.what = x.what
            ∧ (c.kind = 0 → x.claim ≠ .positive → y.claim = .positive ∧ y.claimant = some c.src)
            ∧ (∀ n, c.kind = 0 → x.claim = .positive → x.claimant = some n → c.src < n →
                y.claim = .positive ∧ y.claimant = some c.src
                  ∧ (x.what.continuing = true → y.startStatus = .waiting ∧ y.deadline = Timer.ms x.what.deadline))
            ∧ (∀ n, c.kind = 0 → x.claim = .positive → x.claimant = some n → n ≤ c.src → y = x)
            ∧ (c.kind = 1 → x.claim = .unclaimed → y.claim = .default ∧ y.claimant = some c.src)
            ∧ (c.kind = 1 → x.claim ≠ .unclaimed → y = x)
            ∧ s.sameBut [.rx, .op, .line] t

/-- R55, R57, R58: what a REPLY of the claimant does to the operation: FAILED ends it with its reason, but for
the LOCK_MISS of a LOCK, a refusal or SUPERSEDED with PEER_REFUSED, STROKE_END with STROKE_END, ABORTED with ABORTED. That
STROKE_END goes before the row of the result is the model's choice (log 11), as is a FAILED LOCK of an EXTEND with a
reason that R69 does not name (log 31). An end queues the HOLDs of the other entries still acting, but an ABORTED one,
and withdraws the REQUESTs not yet sent (R57, R61). A REPLY that finishes an entry or advances a phase is left out here. A
REPLY of a station that is not the claimant, to another requester, or with the tag of no entry is ignored. -/
def Obligations.RepliesEndTheOperation : Prop :=
  (∀ (s : State) (f : RxFrame) (r : ReplyFrame), s.heads .replyHandled f → f.reply? = some r → s.settled →
      (r.requester ≠ s.station ∨ s.subWith r.tag = none) → exec .replyHandled s = .next s.dropHeld)
    ∧ ∀ (s : State) (o : OpRecord) (e : ReqEntry) (f : RxFrame) (r : ReplyFrame) (x : SubEntry),
    s.heads .replyHandled f → f.reply? = some r → r.requester = s.station → s.runsFor o e →
    s.subWith r.tag = some x → x.claim = .positive →
    let rest := o.subs.filter fun y => y.tag != r.tag
    (x.claimant = some r.src →
        ∃ t, exec .replyHandled s = .next t
          ∧ (r.reason = Reason.strokeEnd.code → s.opEnded e rest .failed .strokeEnd t)
          ∧ (r.reason ≠ Reason.strokeEnd.code → r.result = Result.failed.code →
              (x.what ≠ .lock ∨ r.reason ≠ Reason.lockMiss.code) →
              s.opEnded e rest .failed (Reason.ofCode r.reason) t)
          ∧ (r.reason ≠ Reason.strokeEnd.code → r.result ∈ [1, 2, 3, 4, 5] → s.opEnded e rest .failed .peerRefused t)
          ∧ (r.reason ≠ Reason.strokeEnd.code → r.result = Result.aborted.code → s.opEnded e rest .aborted .noReason t)
          ∧ (r.reason ≠ Reason.strokeEnd.code → r.result = Result.done.code →
              ((∃ k, x.what = .thrust k) ∨ ∃ k, x.what = .winchFloat k) → s.opEnded e rest .failed .peerRefused t))
      ∧ (x.claimant ≠ some r.src → s.settled → exec .replyHandled s = .next s.dropHeld)

/-- R205, R191: a STOP leaves its station and cause as the last stop notice and changes nothing else of the node; a
frame of an unknown kind is discarded and changes nothing but the holding queue. That a STOP with bytes after its cause
is taken by its cause is the model's choice (log 46). -/
def Obligations.StopNoticesAreKeptAndUnknownKindsDiscarded : Prop :=
  ∀ (s : State) (f : RxFrame), s.settled →
    (∀ src cause, s.heads .stopHandled f → f.stop? = some (src, cause) →
        exec .stopHandled s = .next (s.dropHeld.withNode { s.node with lastStop := some (src, cause) }))
      ∧ (s.heads .unknownKindDiscard f → exec .unknownKindDiscard s = .next s.dropHeld)

/-- R201: a SETUP frame without COMMIT, taken in SETUP, stores the last value carried for each known code and index,
in range or not, and keeps an unknown one as a bad item; in any other node state it changes nothing. That bytes after the
last whole record are not read is the model's reading (log 14). -/
def Obligations.SetupRecordsStoreTheirValues : Prop :=
  ∀ (s : State) (f : RxFrame) (rs : List ItemRecord), s.heads .setupHandled f → f.setup? = some rs → s.settled →
    (s.node.state = .setup → (∀ r ∈ rs, r.code ≠ 0x7F) →
        ∃ t, exec .setupHandled s = .next t
          ∧ (∀ code index, (itemSpec code index).isSome = true →
              heldItem t.node.items code index
                = rs.foldl (fun v r => if r.code = code ∧ r.index = index then some r.value else v)
                    (heldItem s.node.items code index))
          ∧ (∀ r ∈ rs, (itemSpec r.code r.index).isSome = false → (r.code, r.index) ∈ t.node.badItems)
          ∧ (∀ k ∈ t.node.badItems, k ∈ s.node.badItems ∨ ∃ r ∈ rs, (r.code, r.index) = k)
          ∧ t.node.state = .setup ∧ t.node.setup = s.node.setup ∧ s.sameBut [.rx, .node, .setup, .line] t)
      ∧ (s.node.state ≠ .setup → exec .setupHandled s = .next s.dropHeld)

/-- R202: a COMMIT whose four passes find no failure puts the items in force, and the node enters READY, or STOPPED
with the stop line asserted, the tracker and the monitor at their committed values; one that fails keeps the failure and
sets SETUP_ERROR, and the node stays in SETUP. That COMMIT's own value is stored with the items is the model's reading
(log 14), that the cross checks read an item not sent at its default its choice (log 41). -/
def Obligations.CommitPutsTheItemsInForceOrFails : Prop :=
  ∀ (s : State) (f : RxFrame) (r : ItemRecord), s.heads .setupHandled f → f.setup? = some [r] → r.code = 0x7F →
    r.index = 0 → s.node.state = .setup →
    let items := storeItem (0x7F, 0) r.value s.node.items
    let verdict := commitFailure { s.node with items := items }
    ∃ t, exec .setupHandled s = .next t ∧ t.node.items = items
      ∧ (verdict = none →
          t.node.state = (if s.sens.stopLine then .stopped else .ready) ∧ t.node.committed = true
            ∧ t.node.failure = none ∧ t.node.setup = committedSetup items
            ∧ t.node.faults.setupError = false
            ∧ (s.role = some .winch → t.trk.joints = t.node.setup.joints.map (fun _ => JointRec.closed)
                ∧ t.trk.stack = [] ∧ t.trk.residue = 0 ∧ t.trk.datumOffset = t.node.setup.datumOffset)
            ∧ (s.role = some .rotary → t.locks.records = t.node.setup.joints.map (fun _ => none)
                ∧ t.locks.known = false ∧ t.locks.pocketCounts = t.node.setup.joints.map JointGeom.pockets))
      ∧ (∀ x, verdict = some x →
          t.node.state = .setup ∧ t.node.failure = some x ∧ t.node.faults.setupError = true
            ∧ t.node.setup = s.node.setup ∧ t.node.committed = s.node.committed)

/-- R203, R175, R174, R208: START takes a READY node to RUN; HALT in RUN holds the drive and the tool, ends the
operation and empties the table with ABORTED replies, and the node stays in RUN; a PARKED node holds both until its
wake, which the first of them begins once it is SETTLED; in every other state they change nothing. -/
def Obligations.StartAndHaltActByNodeState : Prop :=
  ∀ (s : State) (f : RxFrame), s.sound →
    (s.heads .start f →
        ∃ t, exec .start s = .next t ∧ t.line.hold = s.line.hold.tail
          ∧ (s.node.state = .ready → t.node.state = .run)
          ∧ (s.node.state = .parked → s.broadcastHeld .start t)
          ∧ (s.node.state ≠ .ready → s.node.state ≠ .parked → t = s.dropHeld))
      ∧ (s.heads .halt f →
          ∃ t, exec .halt s = .next t ∧ t.line.hold = s.line.hold.tail ∧ t.node.state = s.node.state
            ∧ (s.node.state = .run → s.drv.wentToHold s.node.setup.brakeSet t.drv ∧ t.drv.source = none
                ∧ t.drv.tool = .held ∧ s.tableEmptied t)
            ∧ (s.node.state = .parked → s.broadcastHeld .halt t)
            ∧ (s.node.state ≠ .run → s.node.state ≠ .parked → t = s.dropHeld))

/-! ### Requests -/

/-- R171, R172: in SETUP, READY and STOPPED a motion request, an operation request, a TOOL function and BORE_STOP are
replied REFUSED_STATE, and SET_DATUM and ASSERT_PICTURE are so in SETUP; nothing else changes. R171, R208: a PARKED node
holds them all, CLAIMED, and begins its wake, or interrupts its entry. That a TOOL function of an aux window with more
than 32 argument bytes is answered so, and not BAD_ARGS, is the model's choice (log 35). -/
def Obligations.NodeStateRefusesOrHoldsFunctions : Prop :=
  ∀ (s : State) (row : Instr) (r : Request), s.asks row r → s.takesRequest r 2 → s.sound →
    ((row ∈ runRows ∧ (s.node.state = .setup ∨ s.node.state = .ready ∨ s.node.state = .stopped)
        ∨ row ∈ [Instr.setDatum, .assertPicture] ∧ s.node.state = .setup) →
        ∃ t, exec row s = .next t ∧ s.answers r .refusedState .noReason [] t ∧ s.sameBut [.rx, .line, .req] t)
      ∧ ((row ∈ runRows ∨ row ∈ [Instr.setDatum, .assertPicture]) → s.node.state = .parked →
          ∃ t, exec row s = .next t ∧ t.req.table = s.req.table ++ [r.entry s.req.nextId]
            ∧ t.queued [s.claimOfRequest r] ∧ t.node.state = .parked
            ∧ (s.node.park = .settled → t.node.park = .waking ∧ t.node.parkTimer = Timer.ms 100 ∧ t.drv.supply = true)
            ∧ (s.node.park = .entering → t.node = { s.node with interrupted := true })
            ∧ s.sameBut [.rx, .node, .drv, .line, .req] t)

/-- R166, R167: a request that the node owns but that is not valid there is claimed and replied BAD_ARGS. R169: any
request claimed with the table full gets its CLAIM and a REPLY BUSY and makes no entry. R168: one that the node does not
claim changes nothing but the holding queue. -/
def Obligations.RequestsAreIgnoredBusyOrBadArgs : Prop :=
  ∀ (s : State) (r : Request), s.sound →
    (s.asks .undefinedFunction r → s.takesRequest r 2 →
        ∃ t, exec .undefinedFunction s = .next t ∧ s.answers r .badArgs .noReason [] t ∧ s.sameBut [.rx, .line, .req] t)
      ∧ ∀ row ∈ requestRows, s.asks row r → s.noResetWaits →
          (s.claims (isStationAddressed r.fn) = true → 4 ≤ s.req.table.length → s.hasRoom 2 →
              ∃ t, exec row s = .next t ∧ t.req = s.req
                ∧ t.queued (claimFrame .requestUnit r.requester r.tag r.fn 0
                    :: replyFrames .requestUnit r.requester r.tag r.fn .busy .noReason [])
                ∧ s.sameBut [.rx, .line] t)
            ∧ (s.claims (isStationAddressed r.fn) = false → exec row s = .next s.dropHeld)

/-- R180: a node strapped DFLT that claims, not LISTEN_ONLY nor LINE_FAULT, makes a WATCHING record, with what is left
of its two windows, for a request it does not own that is no broadcast, when the request is handled (log 34); with eight
records kept, the oldest is removed and its queued frames with it, and one in the shifter is withdrawn; a node without
the strap makes none. R181: the end of a WATCHING record's fast window queues its DEFAULT CLAIM; that of the slow
window removes the record and its queued frames. -/
def Obligations.DefaultClaimantWatchesClaimsAndDrops : Prop :=
  (∀ (s : State) (f : RxFrame) (r : Request), s.heads .unownedRequest f → f.request? = some r → s.settled →
    (s.node.straps.dflt = true → s.claims true = true → r.qual ≠ qualBroadcast →
        ∃ t x, exec .unownedRequest s = .next t
          ∧ (s.req.defaults.length < 8 → t.req.defaults = s.req.defaults ++ [x] ∧ t.line.queue = s.line.queue)
          ∧ (∀ r0 rest, s.req.defaults = r0 :: rest → 7 ≤ rest.length →
              t.req.defaults = rest.filter (fun x => x.id != r0.id) ++ [x]
                ∧ t.line.queue = s.line.queue.filter (fun g => g.owner.record != some r0.id)
                ∧ ∀ g, s.line.shifter = some g → g.owner.record = some r0.id →
                    t.line.shifter = some { g with withdrawn := true })
          ∧ x.requester = r.requester ∧ x.tag = r.tag ∧ x.fn = r.fn ∧ x.status = .watching
          ∧ x.fast = some (400 * s.bitUs - f.waited) ∧ x.slow = some (1200 * s.bitUs - f.waited)
          ∧ t.req.table = s.req.table ∧ s.sameBut [.rx, .line, .req] t)
      ∧ ((s.node.straps.dflt = false ∨ s.claims true = false ∨ r.qual = qualBroadcast) →
          exec .unownedRequest s = .next s.dropHeld))
    ∧ ∀ (s : State) (n : Nat) (r : DefaultRec), s.recordOf n = some r →
      (r.fast.isSome = true → r.status = .watching → s.hasRoom 1 →
          ∃ t, exec (.fastWindowEnd n) s = .next t
            ∧ t.queued [claimFrame (.defaultClaim r.id) r.requester r.tag r.fn 1]
            ∧ t.recordOf n = some { r with fast := none, status := .claimQueued }
            ∧ s.sameBut [.req, .line, .pub] t)
        ∧ (r.fast.isSome = true → r.status ≠ .watching →
            ∃ t, exec (.fastWindowEnd n) s = .next t ∧ t.recordOf n = some { r with fast := none }
              ∧ s.sameBut [.req, .line, .pub] t)
        ∧ (r.slow.isSome = true →
            ∃ t, exec (.defaultSlowWindowEnd n) s = .next t ∧ t.recordOf n = none
              ∧ (∀ f ∈ t.line.queue, f.owner.record ≠ some n) ∧ s.sameBut [.req, .line, .pub] t)

/-- R25, R45, R156, R157, R177: the five queries are answered DONE with their record, as it stands when the request is
taken, and change nothing but the transmit queue; with bad arguments BAD_ARGS. That QUERY_KELLY and QUERY_LOCKS have none
is the model's reading (log 19), and the bytes of the records are its choice where R197 leaves them open (log 13), the mode
of a withheld thrust (log 38) and a received stack length above 6 (log 39) among them. -/
def Obligations.QueriesAnswerTheirRecord : Prop :=
  ∀ (s : State) (row : Instr) (r : Request),
    row ∈ [Instr.queryKelly, .queryLocks, .queryCrowd, .queryPeer, .queryNode] → s.asks row r → s.sound →
    (∀ content, queryContent row (s.claimed r) r.args = some content →
        s.takesRequest r (1 + (replyFrames .requestUnit r.requester r.tag r.fn .done .noReason content).length) →
        ∃ t, exec row s = .next t ∧ s.answers r .done .noReason content t ∧ s.sameBut [.rx, .line, .req] t)
      ∧ (queryContent row (s.claimed r) r.args = none → s.takesRequest r 2 →
          ∃ t, exec row s = .next t ∧ s.answers r .badArgs .noReason [] t ∧ s.sameBut [.rx, .line, .req] t)

/-- R206: CLEAR_FAULT removes from the fault set and the pull every kind whose condition is gone, and is replied DONE
with the fault set as it then stands; the kinds of FAULT entry and LINE_FAULT stay. In FAULT it is replied
REFUSED_STATE, and with more than the station argument BAD_ARGS. -/
def Obligations.ClearFaultRemovesWhatIsGone : Prop :=
  ∀ (s : State) (r : Request), s.asks .clearFault r → s.takesRequest r 2 → s.sound →
    (s.node.state ≠ .fault → r.args.length = 1 →
        ∃ t, exec .clearFault s = .next t
          ∧ t.node.faults
            = { s.node.faults with
                setupError := false, lockSlip := false, overExtension := false
                slackRope := s.node.faults.slackRope && decide (s.sens.tension ≤ s.node.setup.slackTension)
                guardStarved := s.node.faults.guardStarved && s.share.guardShort }
          ∧ t.node.pull
            = { lockSlip := false, overExtension := false
                slackRope := s.node.pull.slackRope && decide (s.sens.tension ≤ s.node.setup.slackTension) }
          ∧ s.answers r .done .noReason (natBytes 2 t.node.faults.code) t ∧ t.node.state = s.node.state
          ∧ s.sameBut [.rx, .node, .line, .req, .pub] t)
      ∧ (s.node.state = .fault →
          ∃ t, exec .clearFault s = .next t ∧ s.answers r .refusedState .noReason [] t
            ∧ s.sameBut [.rx, .line, .req] t)
      ∧ (s.node.state ≠ .fault → r.args.length ≠ 1 →
          ∃ t, exec .clearFault s = .next t ∧ s.answers r .badArgs .noReason [] t ∧ s.sameBut [.rx, .line, .req] t)

/-- R207: PARK of an idle READY or RUN node begins the entry: PARKED, ENTERING, the timer of 100 ms, the valve supply
off, the entry ACTING; a node that is not idle answers NOT_PARKED, and one in SETUP, STOPPED or FAULT REFUSED_STATE; a
parked node answers DONE once settled and NOT_PARKED before; bad arguments BAD_ARGS. -/
def Obligations.ParkBeginsTheEntryOfAnIdleNode : Prop :=
  ∀ (s : State) (r : Request), s.asks .park r → s.takesRequest r 2 → s.sound →
    (r.args.length = 1 → (s.node.state = .ready ∨ s.node.state = .run) → s.req.table = [] → s.op = none → s.drv.state = .held →
        ∃ t, exec .park s = .next t ∧ t.node.state = .parked ∧ t.node.park = .entering
          ∧ t.node.parkTimer = Timer.ms 100 ∧ t.node.returnRun = decide (s.node.state = .run) ∧ t.drv.supply = false
          ∧ t.req.table = [{ r.entry s.req.nextId with state := .acting }] ∧ t.queued [s.claimOfRequest r])
      ∧ (r.args.length = 1 → (s.node.state = .ready ∨ s.node.state = .run) →
          (s.req.table ≠ [] ∨ s.op ≠ none ∨ s.drv.state ≠ .held) →
          ∃ t, exec .park s = .next t ∧ s.answers r .notParked .noReason [] t ∧ s.sameBut [.rx, .line, .req] t)
      ∧ (r.args.length = 1 → (s.node.state = .setup ∨ s.node.state = .stopped) →
          ∃ t, exec .park s = .next t ∧ s.answers r .refusedState .noReason [] t ∧ s.sameBut [.rx, .line, .req] t)
      ∧ (r.args.length = 1 → s.node.state = .parked →
          ∃ t, exec .park s = .next t
            ∧ s.answers r (if s.node.park = .settled then .done else .notParked) .noReason [] t
            ∧ s.sameBut [.rx, .line, .req] t)
      ∧ (s.node.state = .fault →
          ∃ t, exec .park s = .next t ∧ s.answers r .refusedState .noReason [] t ∧ s.sameBut [.rx, .line, .req] t)
      ∧ (s.node.state ≠ .fault → r.args.length ≠ 1 →
          ∃ t, exec .park s = .next t ∧ s.answers r .badArgs .noReason [] t ∧ s.sameBut [.rx, .line, .req] t)

/-- R79 to R81, R89: a direct motion request of a mode other than HOLD that passes its checks in RUN is claimed, its
entry ACTING, and the drive takes the mode with its claim: a HELD drive begins to release toward it, a RELEASING one goes
on toward it, an ACTIVE one changes to it, and a setting one keeps it pending. The direct motion request that was ACTING
is replied SUPERSEDED and its entry removed, and an operation ends SUPERSEDED, wound down (R59, R80). In ACTIVE the
modes that can end at their entry are left out (R101, R107, R110, R43). -/
def Obligations.AcceptedMotionIsTakenByTheDrive : Prop :=
  ∀ (s : State) (row : Instr) (r : Request) (m : Mode), s.asks row r → s.sound → s.node.state = .run →
    modeAsked row s.node.setup r.args = some m → m ≠ .hold → s.interlock m = none →
    (s.drv.state = .active → m.endsAtEntry = false) →
    (s.op = none → s.drv.sourceEntry = none → s.takesRequest r 1 →
        ∃ t, exec row s = .next t ∧ s.motionTaken m r s.req.table t
          ∧ s.sameBut [.rx, .line, .req, .drv, .pub, .locks] t)
      ∧ (∀ e, s.op = none → s.drv.source = some (.request e.id) → s.entryOf e.id = some e → s.takesRequest r 2 →
          ∃ t, exec row s = .next t ∧ s.motionTaken m r (s.req.table.filter fun x => x.id != e.id) t
            ∧ t.replied e .superseded .noReason ∧ s.sameBut [.rx, .line, .req, .drv, .pub, .locks] t)
      ∧ ∀ o e, s.runsFor o e → s.drv.sourceEntry = none → s.takesRequest r (2 + o.subs.length) →
          ∃ t, exec row s = .next t ∧ s.motionTaken m r (s.req.table.filter fun x => x.id != e.id) t
            ∧ t.op = none ∧ t.replied e .superseded .noReason ∧ s.woundDown o.subs t
            ∧ s.sameBut [.rx, .line, .req, .drv, .pub, .op, .locks] t

/-- R79, R97, R100, R108, R109, R111, R118, R130: a direct motion request with bad arguments is replied BAD_ARGS, and
one whose interlock fails REFUSED_INTERLOCK with its reason. R63, R65, R66, R72, R76: an operation request that does not
start is replied BAD_ARGS, REFUSED_INTERLOCK, or, an EXTEND, FAILED with EXTENSION_END or STROKE_END. Nothing else
changes. That the depth of a LOWER, LIFT or BORE of the bytes 0xFF, 0xFF, 0xFF is -1 mm, and so no ground for BAD_ARGS,
is the model's choice (log 12). -/
def Obligations.RefusedMotionAndOperationsChangeNothing : Prop :=
  ∀ (s : State) (row : Instr) (r : Request), s.asks row r → s.takesRequest r 2 → s.sound → s.node.state = .run →
    (row ∈ [Instr.winchMove, .crowdMove, .rotaryMove, .lock, .release] →
        (modeAsked row s.node.setup r.args = none →
          ∃ t, exec row s = .next t ∧ s.answers r .badArgs .noReason [] t ∧ s.sameBut [.rx, .line, .req] t)
        ∧ ∀ m why, modeAsked row s.node.setup r.args = some m → s.interlock m = some why →
            ∃ t, exec row s = .next t ∧ s.answers r .refusedInterlock why [] t ∧ s.sameBut [.rx, .line, .req] t)
      ∧ (row ∈ [Instr.lower, .lift, .extend, .bore, .spinOff] → s.operationAsked row r.args = none →
          let answer := s.operationRefused row r.args
          ∃ t, exec row s = .next t ∧ s.answers r answer.1 answer.2 [] t ∧ s.sameBut [.rx, .line, .req] t)

/-- R80, R82: a HOLD request in RUN is replied DONE at once by a HELD drive; an ACTIVE or RELEASING drive begins to set
and a setting one goes on, the pending mode removed, and the entry stays ACTING. The request that was ACTING is replied
SUPERSEDED, and an operation ends SUPERSEDED, wound down (R59). -/
def Obligations.HoldRequestsSetTheBrake : Prop :=
  ∀ (s : State) (row : Instr) (r : Request), row ∈ [Instr.winchMove, .crowdMove, .rotaryMove] →
    s.asks row r → s.takesRequest r 2 → s.sound → s.node.state = .run →
    modeAsked row s.node.setup r.args = some .hold →
    (s.op = none → s.drv.sourceEntry = none → s.drv.state = .held →
        ∃ t, exec row s = .next t ∧ s.answers r .done .noReason [] t ∧ s.drv.wentToHold s.node.setup.brakeSet t.drv)
      ∧ (s.op = none → s.drv.sourceEntry = none → s.drv.state ≠ .held →
          ∃ t, exec row s = .next t ∧ t.queued [s.claimOfRequest r]
            ∧ t.req.table = s.req.table ++ [{ r.entry s.req.nextId with state := .acting }]
            ∧ s.drv.wentToHold s.node.setup.brakeSet t.drv ∧ t.drv.source = some (.request s.req.nextId))
      ∧ (∀ e, s.op = none → s.drv.source = some (.request e.id) → s.entryOf e.id = some e →
          s.drv.state ≠ .held →
          ∃ t, exec row s = .next t ∧ t.queued [s.claimOfRequest r] ∧ t.replied e .superseded .noReason
            ∧ s.drv.wentToHold s.node.setup.brakeSet t.drv ∧ t.drv.source = some (.request s.req.nextId))
      ∧ ∀ o e, s.runsFor o e → s.drv.sourceEntry = none → s.takesRequest r (3 + o.subs.length) →
          ∃ t, exec row s = .next t ∧ t.queued [s.claimOfRequest r] ∧ t.op = none ∧ t.replied e .superseded .noReason
            ∧ s.woundDown o.subs t ∧ s.drv.wentToHold s.node.setup.brakeSet t.drv
            ∧ (s.drv.state = .held →
                t.queued (replyFrames .requestUnit r.requester r.tag r.fn .done .noReason []))
            ∧ (s.drv.state ≠ .held → t.drv.source = some (.request s.req.nextId))

/-- R46 to R50, R63 to R67, R72, R73, R76: an operation request that passes its prechecks in RUN makes the operation
record of its kind in its first phase, gives the own drive HOLD, queues its first sub-requests in order, and its entry
is WAITING_PEERS. The direct motion request that was ACTING is replied SUPERSEDED and its entry removed, and an operation
ends SUPERSEDED, wound down (R49, R59). That a LOWER, LIFT or BORE whose depth is the bytes 0xFF, 0xFF, 0xFF has the
target -1 mm is the model's choice (log 12). -/
def Obligations.AcceptedOperationsQueueTheirFirstSubRequests : Prop :=
  ∀ (s : State) (row : Instr) (r : Request) (spec : OpSpec) (first : Phase) (subs : List SubReq), s.asks row r →
    s.sound → s.node.state = .run → s.operationAsked row r.args = some (spec, first, subs) →
    (s.op = none → s.drv.sourceEntry = none → s.takesRequest r (1 + subs.length) →
        ∃ t o, exec row s = .next t ∧ s.operationTaken spec first subs r s.req.table o t
          ∧ s.sameBut [.rx, .line, .req, .drv, .pub, .op] t)
      ∧ (∀ e, s.op = none → s.drv.source = some (.request e.id) → s.entryOf e.id = some e →
          s.takesRequest r (2 + subs.length) →
          ∃ t o, exec row s = .next t
            ∧ s.operationTaken spec first subs r (s.req.table.filter fun x => x.id != e.id) o t
            ∧ t.replied e .superseded .noReason ∧ s.sameBut [.rx, .line, .req, .drv, .pub, .op] t)
      ∧ ∀ old e, s.runsFor old e → s.drv.sourceEntry = none → s.takesRequest r (2 + old.subs.length + subs.length) →
          ∃ t o, exec row s = .next t
            ∧ s.operationTaken spec first subs r (s.req.table.filter fun x => x.id != e.id) o t
            ∧ t.replied e .superseded .noReason
            ∧ s.woundDownBut (o.subs.map (SubEntry.frame s.node.setup)) old.subs t
            ∧ s.sameBut [.rx, .line, .req, .drv, .pub, .op] t

/-- R75: BORE_STOP without arguments in RUN ends a BORE record DONE, STOPPED_BY_REQUEST, and is itself replied DONE;
with no BORE record it changes nothing; with arguments it is replied BAD_ARGS. -/
def Obligations.BoreStopEndsTheBore : Prop :=
  ∀ (s : State) (r : Request), s.asks .boreStop r → s.sound → s.node.state = .run →
    (r.args = [] → (∀ o, s.op = some o → o.spec.code ≠ 4) → s.takesRequest r 2 →
        ∃ t, exec .boreStop s = .next t ∧ s.answers r .done .noReason [] t ∧ s.sameBut [.rx, .line, .req] t)
      ∧ (∀ o e, r.args = [] → s.op = some o → o.spec.code = 4 → s.entryOf o.entry = some e →
          s.takesRequest r (3 + o.subs.length) →
          ∃ t, exec .boreStop s = .next t ∧ s.opEnded e o.subs .done .stoppedByRequest t
            ∧ t.queued (s.claimOfRequest r :: replyFrames .requestUnit r.requester r.tag r.fn .done .noReason []))
      ∧ (r.args ≠ [] → s.takesRequest r 2 →
          ∃ t, exec .boreStop s = .next t ∧ s.answers r .badArgs .noReason [] t ∧ s.sameBut [.rx, .line, .req] t)

/-- R22, R23: SET_DATUM with a depth in range, in READY, RUN or STOPPED, makes D that depth and is replied DONE; the
picture, E, the residue and the tracking state stay; a depth missing or out of range is BAD_ARGS, and one with further
bytes so by the model's choice (log 30). That a depth of the bytes 0xFF, 0xFF, 0xFF is -1 mm, and not a missing one, is its
choice too (log 12). Where an operation gave the own drive its mode, the queue has room for the frames of that operation's
end as well, which a PAY that the new depth ends puts before the REPLY (R98, R62, R57). -/
def Obligations.SetDatumMovesTheDepth : Prop :=
  ∀ (s : State) (r : Request), s.asks .setDatum r → s.sound →
    (s.node.state = .ready ∨ s.node.state = .run ∨ s.node.state = .stopped) →
    let ofEnd := if s.drv.source = some .operation then (s.op.map fun o => o.subs.length).getD 0 else 0
    (∀ d, readDepth r.args = some d → s.takesRequest r (3 + ofEnd) →
        ∃ t, exec .setDatum s = .next t ∧ t.D = d ∧ t.E = s.E
          ∧ t.trk = { s.trk with datumOffset := s.sens.payout - s.trk.ropeOffset - d }
          ∧ t.queued (s.claimOfRequest r :: replyFrames .requestUnit r.requester r.tag r.fn .done .noReason [])
          ∧ (∀ x ∈ t.req.table, x ∈ s.req.table) ∧ t.node = s.node)
      ∧ (readDepth r.args = none → s.takesRequest r 2 →
          ∃ t, exec .setDatum s = .next t ∧ s.answers r .badArgs .noReason [] t ∧ s.sameBut [.rx, .line, .req] t)

/-- R20, R21: an ASSERT_PICTURE that passes its checks rebuilds the picture from its list in opening order, with the
residue that is left of E, and the node tracks, or is suspended, by its mirrors; one that fails an interlock is
refused; a list that is out of range is BAD_ARGS, and one with bytes after its last entry so by the model's choice (log
30). -/
def Obligations.AssertedPicturesAreRebuilt : Prop :=
  ∀ (s : State) (r : Request), s.asks .assertPicture r → s.takesRequest r 2 → s.sound →
    (s.node.state = .ready ∨ s.node.state = .run ∨ s.node.state = .stopped) →
    (s.readPicture r.args = none →
        ∃ t, exec .assertPicture s = .next t ∧ s.answers r .badArgs .noReason [] t ∧ s.sameBut [.rx, .line, .req] t)
    ∧ ∀ es, s.readPicture r.args = some es → s.trk.joints.length = s.jointCount →
    let left := s.E - ((es.map Prod.snd).sum : Nat)
    let holds := s.trk.state = .unknown ∧ s.strokeAvailable = true ∧ left.natAbs ≤ s.node.setup.slipTol
    (holds →
        ∃ t, exec .assertPicture s = .next t ∧ t.trk.stack = (es.map Prod.fst).reverse ∧ t.trk.residue = left
          ∧ (∀ x ∈ es, t.trk.joint x.1 = { opened := true, ext := x.2 })
          ∧ (∀ j, 1 ≤ j → j ≤ s.jointCount → (∀ x ∈ es, x.1 ≠ j) → t.trk.joint j = JointRec.closed)
          ∧ (s.bothGood = true → t.trk.state = .tracking)
          ∧ (s.bothGood = false → t.trk.state = .suspended ∧ t.trk.es = s.E)
          ∧ t.trk.ropeOffset = s.trk.ropeOffset ∧ t.trk.datumOffset = s.trk.datumOffset
          ∧ t.trk.event = s.trk.event ∧ s.answers r .done .noReason [] t
          ∧ s.sameBut [.rx, .line, .req, .trk, .pub] t)
      ∧ (¬holds →
          ∃ t, exec .assertPicture s = .next t ∧ s.answers r .refusedInterlock .noReason [] t
            ∧ s.sameBut [.rx, .line, .req] t)

/-- R93, R94: a TOOL request without arguments in RUN takes the tool to its state and is replied DONE; TOOL_OPEN whose
interlock fails is refused, with the tool as it was; with arguments BAD_ARGS. -/
def Obligations.ToolRequestsMoveTheTool : Prop :=
  ∀ (s : State) (row : Instr) (r : Request) (x : ToolState), toolAsked row = some x → s.asks row r →
    s.takesRequest r 2 → s.sound → s.node.state = .run →
    (r.args = [] → (row = .toolOpen → s.toolInterlock = true) →
        ∃ t, exec row s = .next t ∧ t.drv.tool = x ∧ t.drv.state = s.drv.state ∧ t.drv.mode = s.drv.mode
          ∧ s.answers r .done .noReason [] t ∧ s.sameBut [.rx, .line, .req, .drv, .pub] t)
      ∧ (r.args = [] → row = .toolOpen → s.toolInterlock = false →
          ∃ t, exec row s = .next t ∧ s.answers r .refusedInterlock .noReason [] t ∧ s.sameBut [.rx, .line, .req] t)
      ∧ (r.args ≠ [] →
          ∃ t, exec row s = .next t ∧ s.answers r .badArgs .noReason [] t ∧ s.sameBut [.rx, .line, .req] t)

end
end

