-- ==== Sys2Proof/Laws/Queue.lean ====
section
/-! SUPPORT. The transmit queue (R195, R196): entering it in order of class keeps it ordered, and every way a
frame is offered, returned or withdrawn keeps its bounds. -/

namespace Sys2Proof.Machine

/-- Frames in order of class. -/
def queueOrdered (q : List TxFrame) : Prop := q.Pairwise fun a b => a.kind.rank ≤ b.kind.rank

/-- The number of PUBLISH frames of a queue. -/
def publishes (q : List TxFrame) : Nat := (q.filter TxFrame.isPublish).length

theorem publishes_append (p q : List TxFrame) : publishes (p ++ q) = publishes p + publishes q := by
  simp [publishes]

theorem publishes_cons (f : TxFrame) (q : List TxFrame) :
    publishes (f :: q) = (if f.isPublish then 1 else 0) + publishes q := by
  unfold publishes
  by_cases h : f.isPublish <;> simp [h]; omega

theorem queueOrdered_split {q : List TxFrame} (p : TxFrame → Bool) (h : queueOrdered q) :
    queueOrdered (q.takeWhile p) ∧ queueOrdered (q.dropWhile p)
      ∧ ∀ a ∈ q.takeWhile p, ∀ b ∈ q.dropWhile p, a.kind.rank ≤ b.kind.rank := by
  have h' : queueOrdered (q.takeWhile p ++ q.dropWhile p) := by rw [List.takeWhile_append_dropWhile]; exact h
  exact List.pairwise_append.mp h'

/-- In an ordered queue a frame whose rank is not below that of the first frame not taken is above none behind
it. -/
theorem queueOrdered_insert {q : List TxFrame} (f : TxFrame) (p : TxFrame → Bool) (h : queueOrdered q)
    (hlo : ∀ a, p a = true → a.kind.rank ≤ f.kind.rank) (hhi : ∀ b, p b = false → f.kind.rank ≤ b.kind.rank) :
    queueOrdered (q.takeWhile p ++ f :: q.dropWhile p) := by
  obtain ⟨h1, h2, h3⟩ := queueOrdered_split p h
  have hhead : ∀ b ∈ q.dropWhile p, f.kind.rank ≤ b.kind.rank := by
    cases hd : q.dropWhile p with
    | nil => simp
    | cons c rest =>
      intro b hb
      have hc : f.kind.rank ≤ c.kind.rank := by
        apply hhi
        have := List.head?_dropWhile_not p q
        simp [hd] at this
        simpa using this
      rw [hd] at h2
      rcases List.mem_cons.mp hb with rfl | hb
      · exact hc
      · exact le_trans hc ((List.pairwise_cons.mp h2).1 b hb)
  refine List.pairwise_append.mpr ⟨h1, List.pairwise_cons.mpr ⟨hhead, h2⟩, ?_⟩
  intro a ha b hb
  rcases List.mem_cons.mp hb with rfl | hb
  · exact hlo a (List.mem_takeWhile_imp ha)
  · exact h3 a ha b hb

/-- What entering a queue does to it, at the tail or at the head of a class. -/
structure Enters (enter : TxFrame → List TxFrame → List TxFrame) : Prop where
  length : ∀ f q, (enter f q).length = q.length + 1
  count : ∀ f q, publishes (enter f q) = (if f.isPublish then 1 else 0) + publishes q
  ordered : ∀ f q, queueOrdered q → queueOrdered (enter f q)
  mem : ∀ f q g, g ∈ enter f q ↔ g = f ∨ g ∈ q

theorem mem_insert_while (p : TxFrame → Bool) (f g : TxFrame) (q : List TxFrame) :
    g ∈ q.takeWhile p ++ f :: q.dropWhile p ↔ g = f ∨ g ∈ q := by
  have : g ∈ q ↔ g ∈ q.takeWhile p ∨ g ∈ q.dropWhile p := by
    rw [← List.mem_append, List.takeWhile_append_dropWhile]
  simp [this]; tauto

theorem length_insert_while (p : TxFrame → Bool) (f : TxFrame) (q : List TxFrame) :
    (q.takeWhile p ++ f :: q.dropWhile p).length = q.length + 1 := by
  have := congrArg List.length (List.takeWhile_append_dropWhile (p := p) (l := q))
  rw [List.length_append] at this
  rw [List.length_append, List.length_cons]; omega

theorem publishes_insert_while (p : TxFrame → Bool) (f : TxFrame) (q : List TxFrame) :
    publishes (q.takeWhile p ++ f :: q.dropWhile p) = (if f.isPublish then 1 else 0) + publishes q := by
  have := congrArg publishes (List.takeWhile_append_dropWhile (p := p) (l := q))
  rw [publishes_append] at this
  rw [publishes_append, publishes_cons]; omega

theorem enters_tail : Enters enterAtTail where
  length := fun f q => length_insert_while _ f q
  count := fun f q => publishes_insert_while _ f q
  ordered := fun f q h => queueOrdered_insert f _ h (by simp) (by simp; intros; omega)
  mem := fun f q g => mem_insert_while _ f g q

theorem enters_head : Enters enterAtHead where
  length := fun f q => length_insert_while _ f q
  count := fun f q => publishes_insert_while _ f q
  ordered := fun f q h => queueOrdered_insert f _ h (by simp; intros; omega) (by simp)
  mem := fun f q g => mem_insert_while _ f g q

/-- The bounds of a queue. -/
def queueBounded (q : List TxFrame) : Prop := q.length ≤ 6 ∧ publishes q ≤ 1 ∧ queueOrdered q

theorem any_publish_iff (q : List TxFrame) : q.any TxFrame.isPublish = true ↔ 1 ≤ publishes q := by
  induction q with
  | nil => simp [publishes]
  | cons f q ih =>
    rw [publishes_cons]
    by_cases h : f.isPublish <;> simp [h, ih]

theorem queueBounded_filter {q : List TxFrame} (p : TxFrame → Bool) (h : queueBounded q) :
    queueBounded (q.filter p) := by
  obtain ⟨h1, h2, h3⟩ := h
  refine ⟨le_trans (List.length_filter_le _ _) h1, le_trans ?_ h2, h3.filter _⟩
  unfold publishes
  rw [List.filter_filter]
  calc (q.filter fun a => a.isPublish && p a).length
      = ((q.filter TxFrame.isPublish).filter p).length := by rw [List.filter_filter]; congr 2; funext a; simp [Bool.and_comm]
    _ ≤ _ := List.length_filter_le _ _

theorem rank_of_isPublish {f : TxFrame} (h : f.isPublish = true) : f.kind.rank = 3 := by
  simp [TxFrame.isPublish] at h; simp [h, FrameKind.rank]

theorem queueBounded_replace {q : List TxFrame} {f : TxFrame} (hf : f.isPublish = true) (h : queueBounded q) :
    queueBounded (q.map fun g => if g.isPublish then f else g) := by
  obtain ⟨h1, h2, h3⟩ := h
  refine ⟨by simpa using h1, le_trans (le_of_eq ?_) h2, ?_⟩
  · clear h1 h2 h3
    induction q with
    | nil => rfl
    | cons g q ih =>
      rw [List.map_cons, publishes_cons, publishes_cons, ih]
      by_cases hg : g.isPublish <;> simp [hg, hf]
  · have hr : ∀ g : TxFrame, (if g.isPublish then f else g).kind.rank = g.kind.rank := by
      intro g
      by_cases hg : g.isPublish
      · simp [hg, rank_of_isPublish hf, rank_of_isPublish hg]
      · simp [hg]
    unfold queueOrdered at *
    rw [List.pairwise_map]
    exact h3.imp fun hab => by rw [hr, hr]; exact hab

theorem queueBounded_enter {enter : TxFrame → List TxFrame → List TxFrame} (he : Enters enter) {q : List TxFrame}
    {f : TxFrame} (h : queueBounded q) (hlen : q.length < 6) (hpub : f.isPublish = true → publishes q = 0) :
    queueBounded (enter f q) := by
  obtain ⟨-, h2, h3⟩ := h
  refine ⟨by rw [he.length]; omega, ?_, he.ordered f q h3⟩
  rw [he.count]
  by_cases hf : f.isPublish = true
  · simp [hf, hpub hf]
  · simp [hf]; exact h2

theorem queueBounded_evict {enter : TxFrame → List TxFrame → List TxFrame} (he : Enters enter) {q : List TxFrame}
    {f : TxFrame} (h : queueBounded q) (hf : f.isPublish = false) (hq : q.any TxFrame.isPublish = true) :
    queueBounded (enter f (q.filter fun g => !g.isPublish)) := by
  refine queueBounded_enter he (queueBounded_filter _ h) ?_ (by simp [hf])
  have h1 := (any_publish_iff q).mp hq
  have h2 := h.1
  have h3 : (q.filter fun g => !g.isPublish).length + publishes q = q.length := by
    unfold publishes
    rw [add_comm, List.length_eq_length_filter_add (l := q) TxFrame.isPublish]
  omega

end Sys2Proof.Machine
end

