-- ==== Sys2Proof/Laws/State.lean ====
section
/-! SUPPORT. What each update of one field of the state leaves in every field. -/

namespace Sys2Proof.Machine

@[simp] theorem State.withPending_pending (s : State) (x : List Instr) : (s.withPending x).pending = x := rfl
@[simp] theorem State.withPending_clockUs (s : State) (x : List Instr) : (s.withPending x).clockUs = s.clockUs := rfl
@[simp] theorem State.withPending_sens (s : State) (x : List Instr) : (s.withPending x).sens = s.sens := rfl
@[simp] theorem State.withPending_node (s : State) (x : List Instr) : (s.withPending x).node = s.node := rfl
@[simp] theorem State.withPending_line (s : State) (x : List Instr) : (s.withPending x).line = s.line := rfl
@[simp] theorem State.withPending_req (s : State) (x : List Instr) : (s.withPending x).req = s.req := rfl
@[simp] theorem State.withPending_peers (s : State) (x : List Instr) : (s.withPending x).peers = s.peers := rfl
@[simp] theorem State.withPending_pub (s : State) (x : List Instr) : (s.withPending x).pub = s.pub := rfl
@[simp] theorem State.withPending_share (s : State) (x : List Instr) : (s.withPending x).share = s.share := rfl
@[simp] theorem State.withPending_trk (s : State) (x : List Instr) : (s.withPending x).trk = s.trk := rfl
@[simp] theorem State.withPending_locks (s : State) (x : List Instr) : (s.withPending x).locks = s.locks := rfl
@[simp] theorem State.withPending_drv (s : State) (x : List Instr) : (s.withPending x).drv = s.drv := rfl
@[simp] theorem State.withPending_op (s : State) (x : List Instr) : (s.withPending x).op = s.op := rfl
@[simp] theorem State.withClockUs_pending (s : State) (x : Nat) : (s.withClockUs x).pending = s.pending := rfl
@[simp] theorem State.withClockUs_clockUs (s : State) (x : Nat) : (s.withClockUs x).clockUs = x := rfl
@[simp] theorem State.withClockUs_sens (s : State) (x : Nat) : (s.withClockUs x).sens = s.sens := rfl
@[simp] theorem State.withClockUs_node (s : State) (x : Nat) : (s.withClockUs x).node = s.node := rfl
@[simp] theorem State.withClockUs_line (s : State) (x : Nat) : (s.withClockUs x).line = s.line := rfl
@[simp] theorem State.withClockUs_req (s : State) (x : Nat) : (s.withClockUs x).req = s.req := rfl
@[simp] theorem State.withClockUs_peers (s : State) (x : Nat) : (s.withClockUs x).peers = s.peers := rfl
@[simp] theorem State.withClockUs_pub (s : State) (x : Nat) : (s.withClockUs x).pub = s.pub := rfl
@[simp] theorem State.withClockUs_share (s : State) (x : Nat) : (s.withClockUs x).share = s.share := rfl
@[simp] theorem State.withClockUs_trk (s : State) (x : Nat) : (s.withClockUs x).trk = s.trk := rfl
@[simp] theorem State.withClockUs_locks (s : State) (x : Nat) : (s.withClockUs x).locks = s.locks := rfl
@[simp] theorem State.withClockUs_drv (s : State) (x : Nat) : (s.withClockUs x).drv = s.drv := rfl
@[simp] theorem State.withClockUs_op (s : State) (x : Nat) : (s.withClockUs x).op = s.op := rfl
@[simp] theorem State.withSens_pending (s : State) (x : Sensors) : (s.withSens x).pending = s.pending := rfl
@[simp] theorem State.withSens_clockUs (s : State) (x : Sensors) : (s.withSens x).clockUs = s.clockUs := rfl
@[simp] theorem State.withSens_sens (s : State) (x : Sensors) : (s.withSens x).sens = x := rfl
@[simp] theorem State.withSens_node (s : State) (x : Sensors) : (s.withSens x).node = s.node := rfl
@[simp] theorem State.withSens_line (s : State) (x : Sensors) : (s.withSens x).line = s.line := rfl
@[simp] theorem State.withSens_req (s : State) (x : Sensors) : (s.withSens x).req = s.req := rfl
@[simp] theorem State.withSens_peers (s : State) (x : Sensors) : (s.withSens x).peers = s.peers := rfl
@[simp] theorem State.withSens_pub (s : State) (x : Sensors) : (s.withSens x).pub = s.pub := rfl
@[simp] theorem State.withSens_share (s : State) (x : Sensors) : (s.withSens x).share = s.share := rfl
@[simp] theorem State.withSens_trk (s : State) (x : Sensors) : (s.withSens x).trk = s.trk := rfl
@[simp] theorem State.withSens_locks (s : State) (x : Sensors) : (s.withSens x).locks = s.locks := rfl
@[simp] theorem State.withSens_drv (s : State) (x : Sensors) : (s.withSens x).drv = s.drv := rfl
@[simp] theorem State.withSens_op (s : State) (x : Sensors) : (s.withSens x).op = s.op := rfl
@[simp] theorem State.withNode_pending (s : State) (x : NodeCtl) : (s.withNode x).pending = s.pending := rfl
@[simp] theorem State.withNode_clockUs (s : State) (x : NodeCtl) : (s.withNode x).clockUs = s.clockUs := rfl
@[simp] theorem State.withNode_sens (s : State) (x : NodeCtl) : (s.withNode x).sens = s.sens := rfl
@[simp] theorem State.withNode_node (s : State) (x : NodeCtl) : (s.withNode x).node = x := rfl
@[simp] theorem State.withNode_line (s : State) (x : NodeCtl) : (s.withNode x).line = s.line := rfl
@[simp] theorem State.withNode_req (s : State) (x : NodeCtl) : (s.withNode x).req = s.req := rfl
@[simp] theorem State.withNode_peers (s : State) (x : NodeCtl) : (s.withNode x).peers = s.peers := rfl
@[simp] theorem State.withNode_pub (s : State) (x : NodeCtl) : (s.withNode x).pub = s.pub := rfl
@[simp] theorem State.withNode_share (s : State) (x : NodeCtl) : (s.withNode x).share = s.share := rfl
@[simp] theorem State.withNode_trk (s : State) (x : NodeCtl) : (s.withNode x).trk = s.trk := rfl
@[simp] theorem State.withNode_locks (s : State) (x : NodeCtl) : (s.withNode x).locks = s.locks := rfl
@[simp] theorem State.withNode_drv (s : State) (x : NodeCtl) : (s.withNode x).drv = s.drv := rfl
@[simp] theorem State.withNode_op (s : State) (x : NodeCtl) : (s.withNode x).op = s.op := rfl
@[simp] theorem State.withLine_pending (s : State) (x : LinePort) : (s.withLine x).pending = s.pending := rfl
@[simp] theorem State.withLine_clockUs (s : State) (x : LinePort) : (s.withLine x).clockUs = s.clockUs := rfl
@[simp] theorem State.withLine_sens (s : State) (x : LinePort) : (s.withLine x).sens = s.sens := rfl
@[simp] theorem State.withLine_node (s : State) (x : LinePort) : (s.withLine x).node = s.node := rfl
@[simp] theorem State.withLine_line (s : State) (x : LinePort) : (s.withLine x).line = x := rfl
@[simp] theorem State.withLine_req (s : State) (x : LinePort) : (s.withLine x).req = s.req := rfl
@[simp] theorem State.withLine_peers (s : State) (x : LinePort) : (s.withLine x).peers = s.peers := rfl
@[simp] theorem State.withLine_pub (s : State) (x : LinePort) : (s.withLine x).pub = s.pub := rfl
@[simp] theorem State.withLine_share (s : State) (x : LinePort) : (s.withLine x).share = s.share := rfl
@[simp] theorem State.withLine_trk (s : State) (x : LinePort) : (s.withLine x).trk = s.trk := rfl
@[simp] theorem State.withLine_locks (s : State) (x : LinePort) : (s.withLine x).locks = s.locks := rfl
@[simp] theorem State.withLine_drv (s : State) (x : LinePort) : (s.withLine x).drv = s.drv := rfl
@[simp] theorem State.withLine_op (s : State) (x : LinePort) : (s.withLine x).op = s.op := rfl
@[simp] theorem State.withReq_pending (s : State) (x : RequestUnit) : (s.withReq x).pending = s.pending := rfl
@[simp] theorem State.withReq_clockUs (s : State) (x : RequestUnit) : (s.withReq x).clockUs = s.clockUs := rfl
@[simp] theorem State.withReq_sens (s : State) (x : RequestUnit) : (s.withReq x).sens = s.sens := rfl
@[simp] theorem State.withReq_node (s : State) (x : RequestUnit) : (s.withReq x).node = s.node := rfl
@[simp] theorem State.withReq_line (s : State) (x : RequestUnit) : (s.withReq x).line = s.line := rfl
@[simp] theorem State.withReq_req (s : State) (x : RequestUnit) : (s.withReq x).req = x := rfl
@[simp] theorem State.withReq_peers (s : State) (x : RequestUnit) : (s.withReq x).peers = s.peers := rfl
@[simp] theorem State.withReq_pub (s : State) (x : RequestUnit) : (s.withReq x).pub = s.pub := rfl
@[simp] theorem State.withReq_share (s : State) (x : RequestUnit) : (s.withReq x).share = s.share := rfl
@[simp] theorem State.withReq_trk (s : State) (x : RequestUnit) : (s.withReq x).trk = s.trk := rfl
@[simp] theorem State.withReq_locks (s : State) (x : RequestUnit) : (s.withReq x).locks = s.locks := rfl
@[simp] theorem State.withReq_drv (s : State) (x : RequestUnit) : (s.withReq x).drv = s.drv := rfl
@[simp] theorem State.withReq_op (s : State) (x : RequestUnit) : (s.withReq x).op = s.op := rfl
@[simp] theorem State.withPeers_pending (s : State) (x : List Peer) : (s.withPeers x).pending = s.pending := rfl
@[simp] theorem State.withPeers_clockUs (s : State) (x : List Peer) : (s.withPeers x).clockUs = s.clockUs := rfl
@[simp] theorem State.withPeers_sens (s : State) (x : List Peer) : (s.withPeers x).sens = s.sens := rfl
@[simp] theorem State.withPeers_node (s : State) (x : List Peer) : (s.withPeers x).node = s.node := rfl
@[simp] theorem State.withPeers_line (s : State) (x : List Peer) : (s.withPeers x).line = s.line := rfl
@[simp] theorem State.withPeers_req (s : State) (x : List Peer) : (s.withPeers x).req = s.req := rfl
@[simp] theorem State.withPeers_peers (s : State) (x : List Peer) : (s.withPeers x).peers = x := rfl
@[simp] theorem State.withPeers_pub (s : State) (x : List Peer) : (s.withPeers x).pub = s.pub := rfl
@[simp] theorem State.withPeers_share (s : State) (x : List Peer) : (s.withPeers x).share = s.share := rfl
@[simp] theorem State.withPeers_trk (s : State) (x : List Peer) : (s.withPeers x).trk = s.trk := rfl
@[simp] theorem State.withPeers_locks (s : State) (x : List Peer) : (s.withPeers x).locks = s.locks := rfl
@[simp] theorem State.withPeers_drv (s : State) (x : List Peer) : (s.withPeers x).drv = s.drv := rfl
@[simp] theorem State.withPeers_op (s : State) (x : List Peer) : (s.withPeers x).op = s.op := rfl
@[simp] theorem State.withPub_pending (s : State) (x : Assembler) : (s.withPub x).pending = s.pending := rfl
@[simp] theorem State.withPub_clockUs (s : State) (x : Assembler) : (s.withPub x).clockUs = s.clockUs := rfl
@[simp] theorem State.withPub_sens (s : State) (x : Assembler) : (s.withPub x).sens = s.sens := rfl
@[simp] theorem State.withPub_node (s : State) (x : Assembler) : (s.withPub x).node = s.node := rfl
@[simp] theorem State.withPub_line (s : State) (x : Assembler) : (s.withPub x).line = s.line := rfl
@[simp] theorem State.withPub_req (s : State) (x : Assembler) : (s.withPub x).req = s.req := rfl
@[simp] theorem State.withPub_peers (s : State) (x : Assembler) : (s.withPub x).peers = s.peers := rfl
@[simp] theorem State.withPub_pub (s : State) (x : Assembler) : (s.withPub x).pub = x := rfl
@[simp] theorem State.withPub_share (s : State) (x : Assembler) : (s.withPub x).share = s.share := rfl
@[simp] theorem State.withPub_trk (s : State) (x : Assembler) : (s.withPub x).trk = s.trk := rfl
@[simp] theorem State.withPub_locks (s : State) (x : Assembler) : (s.withPub x).locks = s.locks := rfl
@[simp] theorem State.withPub_drv (s : State) (x : Assembler) : (s.withPub x).drv = s.drv := rfl
@[simp] theorem State.withPub_op (s : State) (x : Assembler) : (s.withPub x).op = s.op := rfl
@[simp] theorem State.withShare_pending (s : State) (x : ShareArbiter) : (s.withShare x).pending = s.pending := rfl
@[simp] theorem State.withShare_clockUs (s : State) (x : ShareArbiter) : (s.withShare x).clockUs = s.clockUs := rfl
@[simp] theorem State.withShare_sens (s : State) (x : ShareArbiter) : (s.withShare x).sens = s.sens := rfl
@[simp] theorem State.withShare_node (s : State) (x : ShareArbiter) : (s.withShare x).node = s.node := rfl
@[simp] theorem State.withShare_line (s : State) (x : ShareArbiter) : (s.withShare x).line = s.line := rfl
@[simp] theorem State.withShare_req (s : State) (x : ShareArbiter) : (s.withShare x).req = s.req := rfl
@[simp] theorem State.withShare_peers (s : State) (x : ShareArbiter) : (s.withShare x).peers = s.peers := rfl
@[simp] theorem State.withShare_pub (s : State) (x : ShareArbiter) : (s.withShare x).pub = s.pub := rfl
@[simp] theorem State.withShare_share (s : State) (x : ShareArbiter) : (s.withShare x).share = x := rfl
@[simp] theorem State.withShare_trk (s : State) (x : ShareArbiter) : (s.withShare x).trk = s.trk := rfl
@[simp] theorem State.withShare_locks (s : State) (x : ShareArbiter) : (s.withShare x).locks = s.locks := rfl
@[simp] theorem State.withShare_drv (s : State) (x : ShareArbiter) : (s.withShare x).drv = s.drv := rfl
@[simp] theorem State.withShare_op (s : State) (x : ShareArbiter) : (s.withShare x).op = s.op := rfl
@[simp] theorem State.withTrk_pending (s : State) (x : Tracker) : (s.withTrk x).pending = s.pending := rfl
@[simp] theorem State.withTrk_clockUs (s : State) (x : Tracker) : (s.withTrk x).clockUs = s.clockUs := rfl
@[simp] theorem State.withTrk_sens (s : State) (x : Tracker) : (s.withTrk x).sens = s.sens := rfl
@[simp] theorem State.withTrk_node (s : State) (x : Tracker) : (s.withTrk x).node = s.node := rfl
@[simp] theorem State.withTrk_line (s : State) (x : Tracker) : (s.withTrk x).line = s.line := rfl
@[simp] theorem State.withTrk_req (s : State) (x : Tracker) : (s.withTrk x).req = s.req := rfl
@[simp] theorem State.withTrk_peers (s : State) (x : Tracker) : (s.withTrk x).peers = s.peers := rfl
@[simp] theorem State.withTrk_pub (s : State) (x : Tracker) : (s.withTrk x).pub = s.pub := rfl
@[simp] theorem State.withTrk_share (s : State) (x : Tracker) : (s.withTrk x).share = s.share := rfl
@[simp] theorem State.withTrk_trk (s : State) (x : Tracker) : (s.withTrk x).trk = x := rfl
@[simp] theorem State.withTrk_locks (s : State) (x : Tracker) : (s.withTrk x).locks = s.locks := rfl
@[simp] theorem State.withTrk_drv (s : State) (x : Tracker) : (s.withTrk x).drv = s.drv := rfl
@[simp] theorem State.withTrk_op (s : State) (x : Tracker) : (s.withTrk x).op = s.op := rfl
@[simp] theorem State.withLocks_pending (s : State) (x : LockMonitor) : (s.withLocks x).pending = s.pending := rfl
@[simp] theorem State.withLocks_clockUs (s : State) (x : LockMonitor) : (s.withLocks x).clockUs = s.clockUs := rfl
@[simp] theorem State.withLocks_sens (s : State) (x : LockMonitor) : (s.withLocks x).sens = s.sens := rfl
@[simp] theorem State.withLocks_node (s : State) (x : LockMonitor) : (s.withLocks x).node = s.node := rfl
@[simp] theorem State.withLocks_line (s : State) (x : LockMonitor) : (s.withLocks x).line = s.line := rfl
@[simp] theorem State.withLocks_req (s : State) (x : LockMonitor) : (s.withLocks x).req = s.req := rfl
@[simp] theorem State.withLocks_peers (s : State) (x : LockMonitor) : (s.withLocks x).peers = s.peers := rfl
@[simp] theorem State.withLocks_pub (s : State) (x : LockMonitor) : (s.withLocks x).pub = s.pub := rfl
@[simp] theorem State.withLocks_share (s : State) (x : LockMonitor) : (s.withLocks x).share = s.share := rfl
@[simp] theorem State.withLocks_trk (s : State) (x : LockMonitor) : (s.withLocks x).trk = s.trk := rfl
@[simp] theorem State.withLocks_locks (s : State) (x : LockMonitor) : (s.withLocks x).locks = x := rfl
@[simp] theorem State.withLocks_drv (s : State) (x : LockMonitor) : (s.withLocks x).drv = s.drv := rfl
@[simp] theorem State.withLocks_op (s : State) (x : LockMonitor) : (s.withLocks x).op = s.op := rfl
@[simp] theorem State.withDrv_pending (s : State) (x : Drive) : (s.withDrv x).pending = s.pending := rfl
@[simp] theorem State.withDrv_clockUs (s : State) (x : Drive) : (s.withDrv x).clockUs = s.clockUs := rfl
@[simp] theorem State.withDrv_sens (s : State) (x : Drive) : (s.withDrv x).sens = s.sens := rfl
@[simp] theorem State.withDrv_node (s : State) (x : Drive) : (s.withDrv x).node = s.node := rfl
@[simp] theorem State.withDrv_line (s : State) (x : Drive) : (s.withDrv x).line = s.line := rfl
@[simp] theorem State.withDrv_req (s : State) (x : Drive) : (s.withDrv x).req = s.req := rfl
@[simp] theorem State.withDrv_peers (s : State) (x : Drive) : (s.withDrv x).peers = s.peers := rfl
@[simp] theorem State.withDrv_pub (s : State) (x : Drive) : (s.withDrv x).pub = s.pub := rfl
@[simp] theorem State.withDrv_share (s : State) (x : Drive) : (s.withDrv x).share = s.share := rfl
@[simp] theorem State.withDrv_trk (s : State) (x : Drive) : (s.withDrv x).trk = s.trk := rfl
@[simp] theorem State.withDrv_locks (s : State) (x : Drive) : (s.withDrv x).locks = s.locks := rfl
@[simp] theorem State.withDrv_drv (s : State) (x : Drive) : (s.withDrv x).drv = x := rfl
@[simp] theorem State.withDrv_op (s : State) (x : Drive) : (s.withDrv x).op = s.op := rfl
@[simp] theorem State.withOp_pending (s : State) (x : Option OpRecord) : (s.withOp x).pending = s.pending := rfl
@[simp] theorem State.withOp_clockUs (s : State) (x : Option OpRecord) : (s.withOp x).clockUs = s.clockUs := rfl
@[simp] theorem State.withOp_sens (s : State) (x : Option OpRecord) : (s.withOp x).sens = s.sens := rfl
@[simp] theorem State.withOp_node (s : State) (x : Option OpRecord) : (s.withOp x).node = s.node := rfl
@[simp] theorem State.withOp_line (s : State) (x : Option OpRecord) : (s.withOp x).line = s.line := rfl
@[simp] theorem State.withOp_req (s : State) (x : Option OpRecord) : (s.withOp x).req = s.req := rfl
@[simp] theorem State.withOp_peers (s : State) (x : Option OpRecord) : (s.withOp x).peers = s.peers := rfl
@[simp] theorem State.withOp_pub (s : State) (x : Option OpRecord) : (s.withOp x).pub = s.pub := rfl
@[simp] theorem State.withOp_share (s : State) (x : Option OpRecord) : (s.withOp x).share = s.share := rfl
@[simp] theorem State.withOp_trk (s : State) (x : Option OpRecord) : (s.withOp x).trk = s.trk := rfl
@[simp] theorem State.withOp_locks (s : State) (x : Option OpRecord) : (s.withOp x).locks = s.locks := rfl
@[simp] theorem State.withOp_drv (s : State) (x : Option OpRecord) : (s.withOp x).drv = s.drv := rfl
@[simp] theorem State.withOp_op (s : State) (x : Option OpRecord) : (s.withOp x).op = x := rfl

end Sys2Proof.Machine
end

