-- ==== Sys2Proof/Laws/Via.lean ====
section
/-! SUPPORT. `s₀.via ps s`: from `s₀` the block came to `s` by operations that touch only the parts `ps` and keep
every bound. Each operation of the model has one lemma that carries it one operation further, tagged `simp`, so
that a chain of operations is settled by `simp` with its parts. -/

namespace Sys2Proof.Machine

/-- Reached through operations that touch only the parts listed and keep the bounds. -/
def State.via (ps : List Part) (s t : State) : Prop := s.sameBut ps t ∧ (s.bounded → t.bounded)

theorem State.via.same {ps : List Part} {s t : State} (h : s.via ps t) (p : Part) (hp : p ∉ ps) : p.same s t :=
  h.1.2 p hp

theorem State.via.bounded {ps : List Part} {s t : State} (h : s.via ps t) (hs : s.bounded) : t.bounded := h.2 hs

theorem State.via.pending {ps : List Part} {s t : State} (h : s.via ps t) : t.pending = s.pending := h.1.1

theorem Part.same_refl (p : Part) (s : State) : p.same s s := by cases p <;> simp [Part.same]

theorem Part.same_trans {p : Part} {s t u : State} (h : p.same s t) (k : p.same t u) : p.same s u := by
  cases p <;> simp_all [Part.same]

@[simp] theorem State.via_refl (ps : List Part) (s : State) : s.via ps s :=
  ⟨⟨rfl, fun p _ => p.same_refl s⟩, id⟩

theorem State.via.trans {ps : List Part} {s t u : State} (h : s.via ps t) (k : t.via ps u) : s.via ps u :=
  ⟨⟨k.1.1.trans h.1.1, fun p hp => Part.same_trans (h.1.2 p hp) (k.1.2 p hp)⟩, fun hb => k.2 (h.2 hb)⟩

theorem State.via.mono {ps qs : List Part} {s t : State} (h : s.via ps t) (hs : ps ⊆ qs) : s.via qs t :=
  ⟨⟨h.1.1, fun p hp => h.1.2 p (fun hm => hp (hs hm))⟩, h.2⟩

theorem State.via_ite {ps : List Part} {s₀ a b : State} {c : Prop} [Decidable c] (ha : c → s₀.via ps a)
    (hb : ¬c → s₀.via ps b) : s₀.via ps (if c then a else b) := by
  by_cases h : c
  · rw [if_pos h]; exact ha h
  · rw [if_neg h]; exact hb h

theorem State.via_foldl {α : Type} {ps : List Part} {s₀ : State} (f : State → α → State)
    (hf : ∀ s a, s₀.via ps s → s₀.via ps (f s a)) (l : List α) {s : State} (h : s₀.via ps s) :
    s₀.via ps (l.foldl f s) := by
  induction l generalizing s with
  | nil => exact h
  | cons a l ih => exact ih (hf s a h)

/-! ### One field replaced -/

@[simp] theorem State.via_withClockUs {ps : List Part} {s₀ s : State} (h : s₀.via ps s) (h1 : Part.clock ∈ ps) (x) :
    s₀.via ps (s.withClockUs x) :=
  h.trans ⟨⟨rfl, fun p hp => by cases p <;> simp_all [Part.same]⟩, id⟩

@[simp] theorem State.via_withSens {ps : List Part} {s₀ s : State} (h : s₀.via ps s) (h1 : Part.sens ∈ ps) (x) :
    s₀.via ps (s.withSens x) :=
  h.trans ⟨⟨rfl, fun p hp => by cases p <;> simp_all [Part.same]⟩, id⟩

@[simp] theorem State.via_withPub {ps : List Part} {s₀ s : State} (h : s₀.via ps s) (h1 : Part.pub ∈ ps) (x) :
    s₀.via ps (s.withPub x) :=
  h.trans ⟨⟨rfl, fun p hp => by cases p <;> simp_all [Part.same]⟩, id⟩

@[simp] theorem State.via_withShare {ps : List Part} {s₀ s : State} (h : s₀.via ps s) (h1 : Part.share ∈ ps) (x) :
    s₀.via ps (s.withShare x) :=
  h.trans ⟨⟨rfl, fun p hp => by cases p <;> simp_all [Part.same]⟩, id⟩

@[simp] theorem State.via_withTrk {ps : List Part} {s₀ s : State} (h : s₀.via ps s) (h1 : Part.trk ∈ ps) (x) :
    s₀.via ps (s.withTrk x) :=
  h.trans ⟨⟨rfl, fun p hp => by cases p <;> simp_all [Part.same]⟩, id⟩

@[simp] theorem State.via_withLocks {ps : List Part} {s₀ s : State} (h : s₀.via ps s) (h1 : Part.locks ∈ ps) (x) :
    s₀.via ps (s.withLocks x) :=
  h.trans ⟨⟨rfl, fun p hp => by cases p <;> simp_all [Part.same]⟩, id⟩

@[simp] theorem State.via_withDrv {ps : List Part} {s₀ s : State} (h : s₀.via ps s) (h1 : Part.drv ∈ ps) (x) :
    s₀.via ps (s.withDrv x) :=
  h.trans ⟨⟨rfl, fun p hp => by cases p <;> simp_all [Part.same]⟩, id⟩

@[simp] theorem State.via_withOp {ps : List Part} {s₀ s : State} (h : s₀.via ps s) (h1 : Part.op ∈ ps) (x) :
    s₀.via ps (s.withOp x) :=
  h.trans ⟨⟨rfl, fun p hp => by cases p <;> simp_all [Part.same]⟩, id⟩

theorem State.via_withPeers {ps : List Part} {s₀ s : State} (h : s₀.via ps s) (h1 : Part.peers ∈ ps) (x)
    (hx : peersOrdered s.peers → peersOrdered x) : s₀.via ps (s.withPeers x) :=
  h.trans ⟨⟨rfl, fun p hp => by cases p <;> simp_all [Part.same]⟩, fun hb => ⟨hb.1, hb.2.1, hx hb.2.2.1, hb.2.2.2⟩⟩

theorem State.via_withReq {ps : List Part} {s₀ s : State} (h : s₀.via ps s) (h1 : Part.req ∈ ps) (x)
    (hx : s.req.bounded → x.bounded) : s₀.via ps (s.withReq x) :=
  h.trans ⟨⟨rfl, fun p hp => by cases p <;> simp_all [Part.same]⟩, fun hb => ⟨hb.1, hx hb.2.1, hb.2.2⟩⟩

/-- The line record replaced, its receiver and counts as they were. -/
theorem State.via_withLine {ps : List Part} {s₀ s : State} (h : s₀.via ps s) (h1 : Part.line ∈ ps) (x : LinePort)
    (hx : s.line.bounded → x.bounded)
    (hrx : Part.rx ∈ ps ∨ (x.rx = s.line.rx ∧ x.chars = s.line.chars ∧ x.hold = s.line.hold
      ∧ x.state = s.line.state ∧ x.errRun = s.line.errRun ∧ x.goodRun = s.line.goodRun ∧ x.quiet = s.line.quiet)) :
    s₀.via ps (s.withLine x) :=
  h.trans ⟨⟨rfl, fun p hp => by cases p <;> rcases hrx with hrx | hrx <;> simp_all [Part.same]⟩,
    fun hb => ⟨hx hb.1, hb.2⟩⟩

/-- The node record replaced, the straps as they were. -/
theorem State.via_withNode {ps : List Part} {s₀ s : State} (h : s₀.via ps s) (h1 : Part.node ∈ ps) (x : NodeCtl)
    (hs : x.straps = s.node.straps) (hp : x.pins = s.node.pins)
    (hm : Part.mode ∈ ps ∨ (x.state = s.node.state ∧ x.listen = s.node.listen))
    (hu : Part.setup ∈ ps ∨ (x.setup = s.node.setup ∧ x.items = s.node.items ∧ x.badItems = s.node.badItems
      ∧ x.committed = s.node.committed ∧ x.failure = s.node.failure))
    (hb : s.node.heldBc.length ≤ 4 → x.heldBc.length ≤ 4) : s₀.via ps (s.withNode x) :=
  h.trans ⟨⟨rfl, fun p hp => by
    cases p <;> rcases hm with hm | hm <;> rcases hu with hu | hu <;> simp_all [Part.same]⟩,
    fun hb' => ⟨hb'.1, hb'.2.1, hb'.2.2.1, hb hb'.2.2.2⟩⟩

/-! ### The shared operations (Machine/Ops.lean) -/

@[simp] theorem State.via_signal {ps : List Part} {s₀ s : State} (h : s₀.via ps s) (h1 : Part.pub ∈ ps) :
    s₀.via ps s.signal := by unfold State.signal; simp [*]

@[simp] theorem State.via_signalIf {ps : List Part} {s₀ s : State} (h : s₀.via ps s) (h1 : Part.pub ∈ ps) (b) :
    s₀.via ps (s.signalIf b) := by unfold State.signalIf; split <;> simp [*]

theorem queueBounded_of {l : LinePort} (h : l.bounded) : queueBounded l.queue := ⟨h.1, h.2.1, h.2.2.1⟩

theorem LinePort.bounded_withQueue {l x : LinePort} (h : l.bounded) (hq : queueBounded x.queue)
    (hh : x.hold.length ≤ l.hold.length) (he : x.errRun = l.errRun) (hg : x.goodRun = l.goodRun) : x.bounded := by
  obtain ⟨-, -, -, h4, h5, h6⟩ := h
  exact ⟨hq.1, hq.2.1, hq.2.2, le_trans hh h4, he ▸ h5, hg ▸ h6⟩

theorem State.via_withQueue {ps : List Part} {s₀ s : State} (h : s₀.via ps s) (h1 : Part.line ∈ ps) (q)
    (hq : queueBounded s.line.queue → queueBounded q) : s₀.via ps (s.withQueue q) :=
  State.via_withLine h h1 _ (fun hb => LinePort.bounded_withQueue hb (hq (queueBounded_of hb)) le_rfl rfl rfl)
    (Or.inr ⟨rfl, rfl, rfl, rfl, rfl, rfl, rfl⟩)

@[simp] theorem State.via_dropRecord {ps : List Part} {s₀ s : State} (h : s₀.via ps s) (h1 : Part.req ∈ ps) (n) :
    s₀.via ps (s.dropRecord n) := by
  refine State.via_withReq h h1 _ fun hb => ⟨hb.1, hb.2.1, hb.2.2.1, ?_, hb.2.2.2.2⟩
  exact le_trans (List.length_filter_le _ _) hb.2.2.2.1

/-- Only the frame of a default record takes that record with it when it is dropped. -/
theorem State.via_dropped {ps : List Part} {s₀ s : State} (h : s₀.via ps s) (h1 : Part.line ∈ ps) (f : TxFrame)
    (h2 : Part.req ∈ ps ∨ f.owner.record = none) : s₀.via ps (s.dropped f) := by
  unfold State.dropped
  have h' : s₀.via ps (s.withLine { s.line with lastError := .txDrop }) :=
    State.via_withLine h h1 _ id (Or.inr ⟨rfl, rfl, rfl, rfl, rfl, rfl, rfl⟩)
  dsimp only
  split
  · rcases h2 with h2 | h2
    · simp [*]
    · simp_all
  · exact h'

theorem State.via_offerAt {ps : List Part} {s₀ s : State} (h : s₀.via ps s) (h1 : Part.line ∈ ps)
    {enter} (he : Enters enter) (f : TxFrame) (h2 : Part.req ∈ ps ∨ f.owner.record = none) :
    s₀.via ps (s.offerAt enter f) := by
  unfold State.offerAt
  dsimp only
  split
  · exact h
  split
  · rename_i _ hf
    simp only [Bool.and_eq_true] at hf
    exact State.via_withQueue h h1 _ fun hb => queueBounded_replace hf.1 hb
  split
  · rename_i _ hf hlen
    refine State.via_withQueue h h1 _ fun hb => queueBounded_enter he hb hlen fun hp => ?_
    simp only [hp, Bool.true_and, Bool.not_eq_true] at hf
    have := (any_publish_iff s.line.queue).not.mp (by simp [hf])
    omega
  split
  · rename_i _ _ _ hf
    simp only [Bool.and_eq_true, Bool.not_eq_true'] at hf
    exact State.via_withQueue h h1 _ fun hb => queueBounded_evict he hb hf.1 hf.2
  · exact State.via_dropped h h1 f h2

@[simp] theorem State.via_offer {ps : List Part} {s₀ s : State} (h : s₀.via ps s) (h1 : Part.line ∈ ps)
    (h2 : Part.req ∈ ps) (f) : s₀.via ps (s.offer f) := State.via_offerAt h h1 enters_tail f (Or.inl h2)

theorem State.via_offer_plain {ps : List Part} {s₀ s : State} (h : s₀.via ps s) (h1 : Part.line ∈ ps) (f : TxFrame)
    (hf : f.owner.record = none) : s₀.via ps (s.offer f) := State.via_offerAt h h1 enters_tail f (Or.inr hf)

@[simp] theorem State.via_offerAll {ps : List Part} {s₀ s : State} (h : s₀.via ps s) (h1 : Part.line ∈ ps)
    (h2 : Part.req ∈ ps) (fs) : s₀.via ps (s.offerAll fs) :=
  State.via_foldl _ (fun _ f h => State.via_offer h h1 h2 f) fs h

@[simp] theorem State.via_returnFrame {ps : List Part} {s₀ s : State} (h : s₀.via ps s) (h1 : Part.line ∈ ps)
    (h2 : Part.req ∈ ps) (f) : s₀.via ps (s.returnFrame f) := by
  unfold State.returnFrame
  split
  · exact h
  · exact State.via_offerAt h h1 enters_head f (Or.inl h2)

@[simp] theorem State.via_withdraw {ps : List Part} {s₀ s : State} (h : s₀.via ps s) (h1 : Part.line ∈ ps) (mine) :
    s₀.via ps (s.withdraw mine) :=
  State.via_withLine h h1 _ (fun hb => LinePort.bounded_withQueue hb (queueBounded_filter _ (queueBounded_of hb))
    le_rfl rfl rfl) (Or.inr ⟨rfl, rfl, rfl, rfl, rfl, rfl, rfl⟩)

@[simp] theorem State.via_dropRecords {ps : List Part} {s₀ s : State} (h : s₀.via ps s) (h1 : Part.line ∈ ps)
    (h2 : Part.req ∈ ps) : s₀.via ps s.dropRecords := by
  refine State.via_withdraw (State.via_withReq h h2 { s.req with defaults := [] } fun hb => ?_) h1 _
  exact ⟨hb.1, hb.2.1, hb.2.2.1, Nat.zero_le _, hb.2.2.2.2⟩

@[simp] theorem State.via_removeEntry {ps : List Part} {s₀ s : State} (h : s₀.via ps s) (h1 : Part.req ∈ ps) (id) :
    s₀.via ps (s.removeEntry id) := by
  refine State.via_withReq h h1 _ fun hb => ⟨le_trans (List.length_filter_le _ _) hb.1, ?_, ?_, hb.2.2.2⟩
  · exact (hb.2.1).sublist (List.Sublist.map _ (List.filter_sublist))
  · intro e he; exact hb.2.2.1 e (List.mem_filter.mp he).1

theorem map_id_setEntry (id : Nat) (st : EntryState) (l : List ReqEntry) :
    (l.map fun e => if e.id == id then { e with state := st } else e).map ReqEntry.id = l.map ReqEntry.id := by
  rw [List.map_map]
  apply List.map_congr_left
  intro e _
  by_cases h : e.id = id <;> simp [h]

@[simp] theorem State.via_setEntry {ps : List Part} {s₀ s : State} (h : s₀.via ps s) (h1 : Part.req ∈ ps) (id st) :
    s₀.via ps (s.setEntry id st) := by
  refine State.via_withReq h h1 _ fun hb => ⟨?_, ?_, ?_, hb.2.2.2⟩
  · simpa using hb.1
  · rw [map_id_setEntry]; exact hb.2.1
  · intro e he
    obtain ⟨e', he', rfl⟩ := List.mem_map.mp he
    have := hb.2.2.1 e' he'
    by_cases hid : e'.id = id <;> simp_all

@[simp] theorem State.via_reply {ps : List Part} {s₀ s : State} (h : s₀.via ps s) (h1 : Part.line ∈ ps)
    (h2 : Part.req ∈ ps) (e res why content) : s₀.via ps (s.reply e res why content) := by
  unfold State.reply; simp [*]

@[simp] theorem State.via_replyTo {ps : List Part} {s₀ s : State} (h : s₀.via ps s) (h1 : Part.line ∈ ps)
    (h2 : Part.req ∈ ps) (id res why content) : s₀.via ps (s.replyTo id res why content) := by
  unfold State.replyTo; split <;> simp [*]

@[simp] theorem State.via_emptyTable {ps : List Part} {s₀ s : State} (h : s₀.via ps s) (h1 : Part.line ∈ ps)
    (h2 : Part.req ∈ ps) : s₀.via ps s.emptyTable :=
  State.via_foldl _ (fun _ _ h => State.via_reply h h1 h2 _ _ _ _) _ h

@[simp] theorem State.via_takeTag {ps : List Part} {s₀ s : State} (h : s₀.via ps s) (h1 : Part.req ∈ ps) :
    s₀.via ps s.takeTag :=
  State.via_withReq h h1 _ fun hb => ⟨hb.1, hb.2.1, hb.2.2.1, hb.2.2.2.1, Nat.mod_lt _ (by decide)⟩

/-- Node Control's record replaced in its fault set, pull, parking or last stop notice. -/
theorem State.via_withNode' {ps : List Part} {s₀ s : State} (h : s₀.via ps s) (h1 : Part.node ∈ ps) (x : NodeCtl)
    (hs : x.straps = s.node.straps) (hp : x.pins = s.node.pins) (hm : x.state = s.node.state)
    (hl : x.listen = s.node.listen)
    (hu : x.setup = s.node.setup ∧ x.items = s.node.items ∧ x.badItems = s.node.badItems
      ∧ x.committed = s.node.committed ∧ x.failure = s.node.failure)
    (hb : s.node.heldBc.length ≤ 4 → x.heldBc.length ≤ 4) : s₀.via ps (s.withNode x) :=
  State.via_withNode h h1 x hs hp (Or.inr ⟨hm, hl⟩) (Or.inr hu) hb

@[simp] theorem State.via_setFault {ps : List Part} {s₀ s : State} (h : s₀.via ps s) (h1 : Part.node ∈ ps)
    (h2 : Part.pub ∈ ps) (k) : s₀.via ps (s.setFault k) := by
  unfold State.setFault
  refine State.via_signalIf (State.via_withNode' h h1 _ ?_ ?_ ?_ ?_ ?_ ?_) h2 _ <;> simp

@[simp] theorem State.via_clearFault {ps : List Part} {s₀ s : State} (h : s₀.via ps s) (h1 : Part.node ∈ ps)
    (h2 : Part.pub ∈ ps) (k) : s₀.via ps (s.clearFault k) := by
  unfold State.clearFault
  refine State.via_signalIf (State.via_withNode' h h1 _ ?_ ?_ ?_ ?_ ?_ ?_) h2 _ <;> simp

@[simp] theorem State.via_raiseStop {ps : List Part} {s₀ s : State} (h : s₀.via ps s) (h1 : Part.node ∈ ps)
    (h2 : Part.pub ∈ ps) (h3 : Part.line ∈ ps) (k) : s₀.via ps (s.raiseStop k) := by
  unfold State.raiseStop
  dsimp only
  refine State.via_offer_plain (State.via_withNode' (State.via_signal (State.via_setFault h h1 h2 k) h2) h1 _
    ?_ ?_ ?_ ?_ ?_ ?_) h3 _ rfl <;> simp

@[simp] theorem State.via_setDrv {ps : List Part} {s₀ s : State} (h : s₀.via ps s) (h1 : Part.drv ∈ ps)
    (h2 : Part.pub ∈ ps) (d) : s₀.via ps (s.setDrv d) := by
  unfold State.setDrv
  exact State.via_signalIf (State.via_withDrv h h1 _) h2 _

/-! ### Building a publication (Machine/Publish.lean) -/

@[simp] theorem State.via_startPeriodic {ps : List Part} {s₀ s : State} (h : s₀.via ps s) (h1 : Part.pub ∈ ps) :
    s₀.via ps s.startPeriodic := by unfold State.startPeriodic; simp [*]

@[simp] theorem State.via_buildPublish {ps : List Part} {s₀ s : State} (h : s₀.via ps s) (h1 : Part.pub ∈ ps)
    (h2 : Part.line ∈ ps) : s₀.via ps s.buildPublish := by
  unfold State.buildPublish; exact State.via_offer_plain (State.via_withPub h h1 _) h2 _ rfl

@[simp] theorem State.via_finish {ps : List Part} {s₀ s : State} (h : s₀.via ps s) (h1 : Part.pub ∈ ps)
    (h2 : Part.line ∈ ps) : s₀.via ps s.finish := by
  unfold State.finish; dsimp only; split
  · split <;> simp [*]
  · exact h

end Sys2Proof.Machine
end

