-- ==== Sys2Proof/Laws/ViaDrive.lean ====
section
/-! SUPPORT. The operations of the Share Arbiter, the Axis Drive and the Operation Controller: the parts each
touches. -/

namespace Sys2Proof.Machine

@[simp] theorem State.via_judgeGuard {ps : List Part} {s₀ s : State} (h : s₀.via ps s) (_ : Part.node ∈ ps) (_ :
    Part.pub ∈ ps) (_ : Part.share ∈ ps) :
    s₀.via ps (s.judgeGuard) := by
  unfold State.judgeGuard; dsimp only; repeat' split
  all_goals simp (maxDischargeDepth := 40) [*]

@[simp] theorem State.via_recompute {ps : List Part} {s₀ s : State} (h : s₀.via ps s) (_ : Part.node ∈ ps) (_ :
    Part.pub ∈ ps) (_ : Part.share ∈ ps) :
    s₀.via ps (s.recompute) := by
  unfold State.recompute; simp (maxDischargeDepth := 40) [*]

@[simp] theorem State.via_holdDrive {ps : List Part} {s₀ s : State} (h : s₀.via ps s) (_ : Part.pub ∈ ps) (_ :
    Part.drv ∈ ps) :
    s₀.via ps (s.holdDrive) := by
  unfold State.holdDrive; simp (maxDischargeDepth := 40) [*]

@[simp] theorem State.via_judgeWithheld {ps : List Part} {s₀ s : State} (h : s₀.via ps s) (_ : Part.pub ∈ ps) (_
    : Part.drv ∈ ps) :
    s₀.via ps (s.judgeWithheld) := by
  unfold State.judgeWithheld; simp (maxDischargeDepth := 40) [*]

@[simp] theorem State.via_driveTakes {ps : List Part} {s₀ s : State} (h : s₀.via ps s) (_ : Part.pub ∈ ps) (_ :
    Part.drv ∈ ps) (m : Mode) (src : Source) :
    s₀.via ps (State.driveTakes m src s) := by
  unfold State.driveTakes; simp (maxDischargeDepth := 40) [*]

@[simp] theorem State.via_queueRequest {ps : List Part} {s₀ s : State} (h : s₀.via ps s) (_ : Part.line ∈ ps) (_
    : Part.req ∈ ps) (owner : Producer) (what : SubReq) :
    s₀.via ps (State.queueRequest owner what s) := by
  unfold State.queueRequest; simp (maxDischargeDepth := 40) [*]

@[simp] theorem State.via_queueWindDown {ps : List Part} {s₀ s : State} (h : s₀.via ps s) (_ : Part.line ∈ ps)
    (_ : Part.req ∈ ps) (r : Role) :
    s₀.via ps (State.queueWindDown r s) := by
  unfold State.queueWindDown; simp (maxDischargeDepth := 40) [*]

@[simp] theorem State.via_queueSub {ps : List Part} {s₀ s : State} (h : s₀.via ps s) (_ : Part.line ∈ ps) (_ :
    Part.req ∈ ps) (_ : Part.op ∈ ps) (what : SubReq) :
    s₀.via ps (State.queueSub what s) := by
  unfold State.queueSub; repeat' split
  all_goals simp (maxDischargeDepth := 40) [*]

@[simp] theorem State.via_signalOp {ps : List Part} {s₀ s : State} (h : s₀.via ps s) (_ : Part.pub ∈ ps) :
    s₀.via ps (s.signalOp) := by
  unfold State.signalOp; simp (maxDischargeDepth := 40) [*]

@[simp] theorem State.via_closeOp {ps : List Part} {s₀ s : State} (h : s₀.via ps s) (_ : Part.line ∈ ps) (_ :
    Part.req ∈ ps) (_ : Part.pub ∈ ps) (_ : Part.op ∈ ps) (o : OpRecord) (windDown : Bool) (answer : Option
    (Result × Reason)) :
    s₀.via ps (State.closeOp o windDown answer s) := by
  unfold State.closeOp; dsimp only
  have hf := State.via_foldl (fun s e => State.queueWindDown e.what.target s)
    (fun s e hs => State.via_queueWindDown hs ‹_› ‹_› _) (if windDown then o.subs.filter SubEntry.stillActing else []) h
  split <;> simp (maxDischargeDepth := 40) [*]

@[simp] theorem State.via_giveHold {ps : List Part} {s₀ s : State} (h : s₀.via ps s) (_ : Part.pub ∈ ps) (_ :
    Part.drv ∈ ps) :
    s₀.via ps (s.giveHold) := by
  unfold State.giveHold; simp (maxDischargeDepth := 40) [*]

@[simp] theorem State.via_endOp {ps : List Part} {s₀ s : State} (h : s₀.via ps s) (_ : Part.line ∈ ps) (_ :
    Part.req ∈ ps) (_ : Part.pub ∈ ps) (_ : Part.drv ∈ ps) (_ : Part.op ∈ ps) (res : Result) (why : Reason) :
    s₀.via ps (State.endOp res why s) := by
  unfold State.endOp; repeat' split
  all_goals simp (maxDischargeDepth := 40) [*]

@[simp] theorem State.via_abortOp {ps : List Part} {s₀ s : State} (h : s₀.via ps s) (_ : Part.line ∈ ps) (_ :
    Part.req ∈ ps) (_ : Part.pub ∈ ps) (_ : Part.drv ∈ ps) (_ : Part.op ∈ ps) :
    s₀.via ps (s.abortOp) := by
  unfold State.abortOp; repeat' split
  all_goals simp (maxDischargeDepth := 40) [*]

@[simp] theorem State.via_faultOp {ps : List Part} {s₀ s : State} (h : s₀.via ps s) (_ : Part.line ∈ ps) (_ :
    Part.req ∈ ps) (_ : Part.pub ∈ ps) (_ : Part.op ∈ ps) :
    s₀.via ps (s.faultOp) := by
  unfold State.faultOp; repeat' split
  all_goals simp (maxDischargeDepth := 40) [*]

@[simp] theorem State.via_stopOp {ps : List Part} {s₀ s : State} (h : s₀.via ps s) (_ : Part.line ∈ ps) (_ :
    Part.req ∈ ps) (_ : Part.pub ∈ ps) (_ : Part.op ∈ ps) :
    s₀.via ps (s.stopOp) := by
  unfold State.stopOp; repeat' split
  all_goals simp (maxDischargeDepth := 40) [*]

@[simp] theorem State.via_displaceOp {ps : List Part} {s₀ s : State} (h : s₀.via ps s) (_ : Part.line ∈ ps) (_ :
    Part.req ∈ ps) (_ : Part.pub ∈ ps) (_ : Part.op ∈ ps) (res : Result) (why : Reason) :
    s₀.via ps (State.displaceOp res why s) := by
  unfold State.displaceOp; repeat' split
  all_goals simp (maxDischargeDepth := 40) [*]

@[simp] theorem State.via_endMode {ps : List Part} {s₀ s : State} (h : s₀.via ps s) (_ : Part.line ∈ ps) (_ :
    Part.req ∈ ps) (_ : Part.pub ∈ ps) (_ : Part.drv ∈ ps) (_ : Part.op ∈ ps) (res : Result) (why : Reason)
    (reported : Bool) (content : List Byte) :
    s₀.via ps (State.endMode res why reported content s) := by
  unfold State.endMode; dsimp only; repeat' split
  all_goals simp (maxDischargeDepth := 40) [*]

@[simp] theorem State.via_setPhase {ps : List Part} {s₀ s : State} (h : s₀.via ps s) (_ : Part.pub ∈ ps) (_ :
    Part.op ∈ ps) (p : Phase) :
    s₀.via ps (State.setPhase p s) := by
  unfold State.setPhase; repeat' split
  all_goals simp (maxDischargeDepth := 40) [*]

@[simp] theorem State.via_enterPulling {ps : List Part} {s₀ s : State} (h : s₀.via ps s) (_ : Part.line ∈ ps) (_
    : Part.req ∈ ps) (_ : Part.pub ∈ ps) (_ : Part.drv ∈ ps) (_ : Part.op ∈ ps) :
    s₀.via ps (s.enterPulling) := by
  unfold State.enterPulling; dsimp only; repeat' split
  all_goals simp (maxDischargeDepth := 40) [*]

@[simp] theorem State.via_checkPay {ps : List Part} {s₀ s : State} (h : s₀.via ps s) (_ : Part.line ∈ ps) (_ :
    Part.req ∈ ps) (_ : Part.pub ∈ ps) (_ : Part.drv ∈ ps) (_ : Part.op ∈ ps) (judgeRoom : Bool) :
    s₀.via ps (State.checkPay judgeRoom s) := by
  unfold State.checkPay; repeat' split
  all_goals simp (maxDischargeDepth := 40) [*]

@[simp] theorem State.via_checkHome {ps : List Part} {s₀ s : State} (h : s₀.via ps s) (_ : Part.line ∈ ps) (_ :
    Part.req ∈ ps) (_ : Part.pub ∈ ps) (_ : Part.drv ∈ ps) (_ : Part.op ∈ ps) :
    s₀.via ps (s.checkHome) := by
  unfold State.checkHome; repeat' split
  all_goals simp (maxDischargeDepth := 40) [*]

@[simp] theorem State.via_checkTop {ps : List Part} {s₀ s : State} (h : s₀.via ps s) (_ : Part.line ∈ ps) (_ :
    Part.req ∈ ps) (_ : Part.pub ∈ ps) (_ : Part.drv ∈ ps) (_ : Part.op ∈ ps) :
    s₀.via ps (s.checkTop) := by
  unfold State.checkTop; repeat' split
  all_goals simp (maxDischargeDepth := 40) [*]

@[simp] theorem State.via_judgeStroke {ps : List Part} {s₀ s : State} (h : s₀.via ps s) (_ : Part.line ∈ ps) (_
    : Part.req ∈ ps) (_ : Part.pub ∈ ps) (_ : Part.drv ∈ ps) (_ : Part.op ∈ ps) (down : Bool) (target : Option
    Int) :
    s₀.via ps (State.judgeStroke down target s) := by
  unfold State.judgeStroke; repeat' split
  all_goals simp (maxDischargeDepth := 40) [*]

@[simp] theorem State.via_checkStroke {ps : List Part} {s₀ s : State} (h : s₀.via ps s) (_ : Part.line ∈ ps) (_
    : Part.req ∈ ps) (_ : Part.pub ∈ ps) (_ : Part.drv ∈ ps) (_ : Part.op ∈ ps) :
    s₀.via ps (s.checkStroke) := by
  unfold State.checkStroke; repeat' split
  all_goals simp (maxDischargeDepth := 40) [*]

@[simp] theorem State.via_checkRelease {ps : List Part} {s₀ s : State} (h : s₀.via ps s) (_ : Part.line ∈ ps) (_
    : Part.req ∈ ps) (_ : Part.pub ∈ ps) (_ : Part.drv ∈ ps) (_ : Part.op ∈ ps) :
    s₀.via ps (s.checkRelease) := by
  unfold State.checkRelease; repeat' split
  all_goals simp (maxDischargeDepth := 40) [*]

@[simp] theorem State.via_judgeStall {ps : List Part} {s₀ s : State} (h : s₀.via ps s) (_ : Part.pub ∈ ps) (_ :
    Part.drv ∈ ps) :
    s₀.via ps (s.judgeStall) := by
  unfold State.judgeStall; dsimp only; repeat' split
  all_goals simp (maxDischargeDepth := 40) [*]

@[simp] theorem State.via_rejudgeStall {ps : List Part} {s₀ s : State} (h : s₀.via ps s) (_ : Part.pub ∈ ps) (_
    : Part.drv ∈ ps) :
    s₀.via ps (s.rejudgeStall) := by
  unfold State.rejudgeStall; simp (maxDischargeDepth := 40) [*]

@[simp] theorem State.via_enterLock {ps : List Part} {s₀ s : State} (h : s₀.via ps s) (_ : Part.locks ∈ ps) :
    s₀.via ps (s.enterLock) := by
  unfold State.enterLock; dsimp only; repeat' split
  all_goals simp (maxDischargeDepth := 40) [*]

@[simp] theorem State.via_enterSpin {ps : List Part} {s₀ s : State} (h : s₀.via ps s) (_ : Part.pub ∈ ps) (_ :
    Part.drv ∈ ps) :
    s₀.via ps (s.enterSpin) := by
  unfold State.enterSpin; simp (maxDischargeDepth := 40) [*]

@[simp] theorem State.via_enterHaul {ps : List Part} {s₀ s : State} (h : s₀.via ps s) (_ : Part.line ∈ ps) (_ :
    Part.req ∈ ps) (_ : Part.pub ∈ ps) (_ : Part.drv ∈ ps) (_ : Part.op ∈ ps) :
    s₀.via ps (s.enterHaul) := by
  unfold State.enterHaul; simp (maxDischargeDepth := 40) [*]

@[simp] theorem State.via_enterActive {ps : List Part} {s₀ s : State} (h : s₀.via ps s) (_ : Part.line ∈ ps) (_
    : Part.req ∈ ps) (_ : Part.pub ∈ ps) (_ : Part.locks ∈ ps) (_ : Part.drv ∈ ps) (_ : Part.op ∈ ps) :
    s₀.via ps (s.enterActive) := by
  unfold State.enterActive; repeat' split
  all_goals simp (maxDischargeDepth := 40) [*]

@[simp] theorem State.via_enterIfActive {ps : List Part} {s₀ s : State} (h : s₀.via ps s) (_ : Part.line ∈ ps)
    (_ : Part.req ∈ ps) (_ : Part.pub ∈ ps) (_ : Part.locks ∈ ps) (_ : Part.drv ∈ ps) (_ : Part.op ∈ ps) :
    s₀.via ps (s.enterIfActive) := by
  unfold State.enterIfActive; repeat' split
  all_goals simp (maxDischargeDepth := 40) [*]

@[simp] theorem State.via_originActs {ps : List Part} {s₀ s : State} (h : s₀.via ps s) (_ : Part.req ∈ ps) :
    s₀.via ps (s.originActs) := by
  unfold State.originActs; repeat' split
  all_goals simp (maxDischargeDepth := 40) [*]

@[simp] theorem State.via_giveMode {ps : List Part} {s₀ s : State} (h : s₀.via ps s) (_ : Part.line ∈ ps) (_ :
    Part.req ∈ ps) (_ : Part.pub ∈ ps) (_ : Part.locks ∈ ps) (_ : Part.drv ∈ ps) (_ : Part.op ∈ ps) (m : Mode) :
    s₀.via ps (State.giveMode m s) := by
  unfold State.giveMode; repeat' split
  all_goals simp (maxDischargeDepth := 40) [*]

@[simp] theorem State.via_supersedeDirect {ps : List Part} {s₀ s : State} (h : s₀.via ps s) (_ : Part.line ∈ ps)
    (_ : Part.req ∈ ps) :
    s₀.via ps (s.supersedeDirect) := by
  unfold State.supersedeDirect; repeat' split
  all_goals simp (maxDischargeDepth := 40) [*]

@[simp] theorem State.via_acceptHold {ps : List Part} {s₀ s : State} (h : s₀.via ps s) (_ : Part.line ∈ ps) (_ :
    Part.req ∈ ps) (_ : Part.pub ∈ ps) (_ : Part.drv ∈ ps) (e : ReqEntry) :
    s₀.via ps (State.acceptHold e s) := by
  unfold State.acceptHold; dsimp only; repeat' split
  all_goals simp (maxDischargeDepth := 40) [*]

@[simp] theorem State.via_accept {ps : List Part} {s₀ s : State} (h : s₀.via ps s) (_ : Part.line ∈ ps) (_ :
    Part.req ∈ ps) (_ : Part.pub ∈ ps) (_ : Part.locks ∈ ps) (_ : Part.drv ∈ ps) (_ : Part.op ∈ ps) (e :
    ReqEntry) (m : Mode) :
    s₀.via ps (State.accept e m s) := by
  unfold State.accept; dsimp only; repeat' split
  all_goals simp (maxDischargeDepth := 40) [*]

@[simp] theorem State.via_takeDirect {ps : List Part} {s₀ s : State} (h : s₀.via ps s) (_ : Part.line ∈ ps) (_ :
    Part.req ∈ ps) (_ : Part.pub ∈ ps) (_ : Part.locks ∈ ps) (_ : Part.drv ∈ ps) (_ : Part.op ∈ ps) (e :
    ReqEntry) (m : Mode) :
    s₀.via ps (State.takeDirect e m s) := by
  unfold State.takeDirect; repeat' split
  all_goals simp (maxDischargeDepth := 40) [*]

@[simp] theorem State.via_mapSub {ps : List Part} {s₀ s : State} (h : s₀.via ps s) (_ : Part.op ∈ ps) (tag :
    Nat) (f : SubEntry → SubEntry) :
    s₀.via ps (State.mapSub tag f s) := by
  unfold State.mapSub; repeat' split
  all_goals simp (maxDischargeDepth := 40) [*]

@[simp] theorem State.via_dropSub {ps : List Part} {s₀ s : State} (h : s₀.via ps s) (_ : Part.op ∈ ps) (tag : Nat) :
    s₀.via ps (State.dropSub tag s) := by
  unfold State.dropSub; repeat' split
  all_goals simp (maxDischargeDepth := 40) [*]

@[simp] theorem State.via_enterLocking {ps : List Part} {s₀ s : State} (h : s₀.via ps s) (_ : Part.pub ∈ ps) (_
    : Part.op ∈ ps) :
    s₀.via ps (s.enterLocking) := by
  unfold State.enterLocking; repeat' split
  all_goals simp (maxDischargeDepth := 40) [*]

@[simp] theorem State.via_leavePrepare {ps : List Part} {s₀ s : State} (h : s₀.via ps s) (_ : Part.line ∈ ps) (_
    : Part.req ∈ ps) (_ : Part.pub ∈ ps) (_ : Part.locks ∈ ps) (_ : Part.drv ∈ ps) (_ : Part.op ∈ ps) :
    s₀.via ps (s.leavePrepare) := by
  unfold State.leavePrepare; repeat' split
  all_goals simp (maxDischargeDepth := 40) [*]

@[simp] theorem State.via_checkPrepare {ps : List Part} {s₀ s : State} (h : s₀.via ps s) (_ : Part.line ∈ ps) (_
    : Part.req ∈ ps) (_ : Part.pub ∈ ps) (_ : Part.locks ∈ ps) (_ : Part.drv ∈ ps) (_ : Part.op ∈ ps) :
    s₀.via ps (s.checkPrepare) := by
  unfold State.checkPrepare; repeat' split
  all_goals simp (maxDischargeDepth := 40) [*]

@[simp] theorem State.via_feedStep {ps : List Part} {s₀ s : State} (h : s₀.via ps s) (_ : Part.line ∈ ps) (_ :
    Part.req ∈ ps) (_ : Part.pub ∈ ps) (_ : Part.locks ∈ ps) (_ : Part.drv ∈ ps) (_ : Part.op ∈ ps) :
    s₀.via ps (s.feedStep) := by
  unfold State.feedStep; dsimp only; repeat' split
  all_goals simp (maxDischargeDepth := 40) [*]

@[simp] theorem State.via_turnDone {ps : List Part} {s₀ s : State} (h : s₀.via ps s) (_ : Part.line ∈ ps) (_ :
    Part.req ∈ ps) (_ : Part.pub ∈ ps) (_ : Part.locks ∈ ps) (_ : Part.drv ∈ ps) (_ : Part.op ∈ ps) (what :
    SubReq) :
    s₀.via ps (State.turnDone what s) := by
  unfold State.turnDone; repeat' split
  all_goals simp (maxDischargeDepth := 40) [*]

@[simp] theorem State.via_beginCorrection {ps : List Part} {s₀ s : State} (h : s₀.via ps s) (_ : Part.pub ∈ ps)
    (_ : Part.op ∈ ps) (missed : Bool) :
    s₀.via ps (State.beginCorrection missed s) := by
  unfold State.beginCorrection; repeat' split
  all_goals simp (maxDischargeDepth := 40) [*]

@[simp] theorem State.via_lockReplied {ps : List Part} {s₀ s : State} (h : s₀.via ps s) (_ : Part.line ∈ ps) (_
    : Part.req ∈ ps) (_ : Part.pub ∈ ps) (_ : Part.locks ∈ ps) (_ : Part.drv ∈ ps) (_ : Part.op ∈ ps) (seated :
    List (Nat × Nat)) :
    s₀.via ps (State.lockReplied seated s) := by
  unfold State.lockReplied; dsimp only; repeat' split
  all_goals simp (maxDischargeDepth := 40) [*]

@[simp] theorem State.via_lockMissed {ps : List Part} {s₀ s : State} (h : s₀.via ps s) (_ : Part.line ∈ ps) (_ :
    Part.req ∈ ps) (_ : Part.pub ∈ ps) (_ : Part.locks ∈ ps) (_ : Part.drv ∈ ps) (_ : Part.op ∈ ps) :
    s₀.via ps (s.lockMissed) := by
  unfold State.lockMissed; repeat' split
  all_goals simp (maxDischargeDepth := 40) [*]

@[simp] theorem State.via_opTakesClaim {ps : List Part} {s₀ s : State} (h : s₀.via ps s) (_ : Part.op ∈ ps) (c :
    ClaimFrame) :
    s₀.via ps (State.opTakesClaim c s) := by
  unfold State.opTakesClaim; repeat' split
  all_goals simp (maxDischargeDepth := 40) [*]

@[simp] theorem State.via_subDone {ps : List Part} {s₀ s : State} (h : s₀.via ps s) (_ : Part.line ∈ ps) (_ :
    Part.req ∈ ps) (_ : Part.pub ∈ ps) (_ : Part.locks ∈ ps) (_ : Part.drv ∈ ps) (_ : Part.op ∈ ps) (e :
    SubEntry) (content : List Byte) :
    s₀.via ps (State.subDone e content s) := by
  unfold State.subDone; repeat' split
  all_goals simp (maxDischargeDepth := 40) [*]

@[simp] theorem State.via_subFailed {ps : List Part} {s₀ s : State} (h : s₀.via ps s) (_ : Part.line ∈ ps) (_ :
    Part.req ∈ ps) (_ : Part.pub ∈ ps) (_ : Part.locks ∈ ps) (_ : Part.drv ∈ ps) (_ : Part.op ∈ ps) (e :
    SubEntry) (why : Reason) :
    s₀.via ps (State.subFailed e why s) := by
  unfold State.subFailed; repeat' split
  all_goals simp (maxDischargeDepth := 40) [*]

@[simp] theorem State.via_subReplied {ps : List Part} {s₀ s : State} (h : s₀.via ps s) (_ : Part.line ∈ ps) (_ :
    Part.req ∈ ps) (_ : Part.pub ∈ ps) (_ : Part.locks ∈ ps) (_ : Part.drv ∈ ps) (_ : Part.op ∈ ps) (e :
    SubEntry) (res : Nat) (why : Reason) (content : List Byte) :
    s₀.via ps (State.subReplied e res why content s) := by
  unfold State.subReplied; repeat' split
  all_goals simp (maxDischargeDepth := 40) [*]

@[simp] theorem State.via_opTakesReply {ps : List Part} {s₀ s : State} (h : s₀.via ps s) (_ : Part.line ∈ ps) (_
    : Part.req ∈ ps) (_ : Part.pub ∈ ps) (_ : Part.locks ∈ ps) (_ : Part.drv ∈ ps) (_ : Part.op ∈ ps) (r :
    ReplyFrame) :
    s₀.via ps (State.opTakesReply r s) := by
  unfold State.opTakesReply; dsimp only; repeat' split
  all_goals simp (maxDischargeDepth := 40) [*]

@[simp] theorem State.via_startSubs {ps : List Part} {s₀ s : State} (h : s₀.via ps s) (_ : Part.line ∈ ps) (_ :
    Part.req ∈ ps) (_ : Part.pub ∈ ps) (_ : Part.locks ∈ ps) (_ : Part.drv ∈ ps) (_ : Part.op ∈ ps) (p : Peer) :
    s₀.via ps (State.startSubs p s) := by
  unfold State.startSubs; repeat' split
  all_goals simp (maxDischargeDepth := 40) [*]

@[simp] theorem State.via_judgeRelease {ps : List Part} {s₀ s : State} (h : s₀.via ps s) (_ : Part.line ∈ ps) (_
    : Part.req ∈ ps) (_ : Part.pub ∈ ps) (_ : Part.locks ∈ ps) (_ : Part.drv ∈ ps) (_ : Part.op ∈ ps) :
    s₀.via ps (s.judgeRelease) := by
  unfold State.judgeRelease; repeat' split
  all_goals simp (maxDischargeDepth := 40) [*]

@[simp] theorem State.via_opMirrors {ps : List Part} {s₀ s : State} (h : s₀.via ps s) (_ : Part.line ∈ ps) (_ :
    Part.req ∈ ps) (_ : Part.pub ∈ ps) (_ : Part.drv ∈ ps) (_ : Part.op ∈ ps) (before : State) (accepted :
    Option Nat) :
    s₀.via ps (State.opMirrors before accepted s) := by
  unfold State.opMirrors; repeat' split
  all_goals simp (maxDischargeDepth := 40) [*]

@[simp] theorem State.via_opHandOn {ps : List Part} {s₀ s : State} (h : s₀.via ps s) (_ : Part.line ∈ ps) (_ :
    Part.req ∈ ps) (_ : Part.pub ∈ ps) (_ : Part.locks ∈ ps) (_ : Part.drv ∈ ps) (_ : Part.op ∈ ps) (before :
    State) (accepted : Option Nat) :
    s₀.via ps (State.opHandOn before accepted s) := by
  unfold State.opHandOn; dsimp only; repeat' split
  all_goals simp (maxDischargeDepth := 40) [*]

@[simp] theorem State.via_opTrackingLost {ps : List Part} {s₀ s : State} (h : s₀.via ps s) (_ : Part.line ∈ ps)
    (_ : Part.req ∈ ps) (_ : Part.pub ∈ ps) (_ : Part.drv ∈ ps) (_ : Part.op ∈ ps) :
    s₀.via ps (s.opTrackingLost) := by
  unfold State.opTrackingLost; simp (maxDischargeDepth := 40) [*]

@[simp] theorem State.via_opDepth {ps : List Part} {s₀ s : State} (h : s₀.via ps s) (_ : Part.line ∈ ps) (_ :
    Part.req ∈ ps) (_ : Part.pub ∈ ps) (_ : Part.drv ∈ ps) (_ : Part.op ∈ ps) :
    s₀.via ps (s.opDepth) := by
  unfold State.opDepth; repeat' split
  all_goals simp (maxDischargeDepth := 40) [*]

@[simp] theorem State.via_opPublished {ps : List Part} {s₀ s : State} (h : s₀.via ps s) (_ : Part.line ∈ ps) (_
    : Part.req ∈ ps) (_ : Part.op ∈ ps) (n : Nat) :
    s₀.via ps (State.opPublished n s) := by
  unfold State.opPublished; repeat' split
  all_goals simp (maxDischargeDepth := 40) [*]

@[simp] theorem State.via_subSent {ps : List Part} {s₀ s : State} (h : s₀.via ps s) (_ : Part.op ∈ ps) (tag : Nat) :
    s₀.via ps (State.subSent tag s) := by
  unfold State.subSent; simp (maxDischargeDepth := 40) [*]

@[simp] theorem State.via_acceptOp {ps : List Part} {s₀ s : State} (h : s₀.via ps s) (_ : Part.line ∈ ps) (_ :
    Part.req ∈ ps) (_ : Part.pub ∈ ps) (_ : Part.locks ∈ ps) (_ : Part.drv ∈ ps) (_ : Part.op ∈ ps) (e :
    ReqEntry) (spec : OpSpec) (first : Phase) :
    s₀.via ps (State.acceptOp e spec first s) := by
  unfold State.acceptOp; simp (maxDischargeDepth := 40) [*]

@[simp] theorem State.via_prepareRope {ps : List Part} {s₀ s : State} (h : s₀.via ps s) (_ : Part.line ∈ ps) (_
    : Part.req ∈ ps) (_ : Part.op ∈ ps) :
    s₀.via ps (s.prepareRope) := by
  unfold State.prepareRope; dsimp only; repeat' split
  all_goals simp (maxDischargeDepth := 40) [*]

@[simp] theorem State.via_takeLower {ps : List Part} {s₀ s : State} (h : s₀.via ps s) (_ : Part.line ∈ ps) (_ :
    Part.req ∈ ps) (_ : Part.pub ∈ ps) (_ : Part.locks ∈ ps) (_ : Part.drv ∈ ps) (_ : Part.op ∈ ps) (e :
    ReqEntry) :
    s₀.via ps (takeLower e s) := by
  unfold takeLower; repeat' split
  all_goals simp (maxDischargeDepth := 40) [*]

@[simp] theorem State.via_takeLift {ps : List Part} {s₀ s : State} (h : s₀.via ps s) (_ : Part.line ∈ ps) (_ :
    Part.req ∈ ps) (_ : Part.pub ∈ ps) (_ : Part.locks ∈ ps) (_ : Part.drv ∈ ps) (_ : Part.op ∈ ps) (e :
    ReqEntry) :
    s₀.via ps (takeLift e s) := by
  unfold takeLift; repeat' split
  all_goals simp (maxDischargeDepth := 40) [*]

@[simp] theorem State.via_takeExtend {ps : List Part} {s₀ s : State} (h : s₀.via ps s) (_ : Part.line ∈ ps) (_ :
    Part.req ∈ ps) (_ : Part.pub ∈ ps) (_ : Part.locks ∈ ps) (_ : Part.drv ∈ ps) (_ : Part.op ∈ ps) (e :
    ReqEntry) :
    s₀.via ps (takeExtend e s) := by
  unfold takeExtend; dsimp only; repeat' split
  all_goals simp (maxDischargeDepth := 40) [*]

@[simp] theorem State.via_takeBore {ps : List Part} {s₀ s : State} (h : s₀.via ps s) (_ : Part.line ∈ ps) (_ :
    Part.req ∈ ps) (_ : Part.pub ∈ ps) (_ : Part.locks ∈ ps) (_ : Part.drv ∈ ps) (_ : Part.op ∈ ps) (e :
    ReqEntry) :
    s₀.via ps (takeBore e s) := by
  unfold takeBore; repeat' split
  all_goals simp (maxDischargeDepth := 40) [*]

@[simp] theorem State.via_takeBoreStop {ps : List Part} {s₀ s : State} (h : s₀.via ps s) (_ : Part.line ∈ ps) (_
    : Part.req ∈ ps) (_ : Part.pub ∈ ps) (_ : Part.locks ∈ ps) (_ : Part.drv ∈ ps) (_ : Part.op ∈ ps) (e :
    ReqEntry) :
    s₀.via ps (takeBoreStop e s) := by
  unfold takeBoreStop; dsimp only; repeat' split
  all_goals simp (maxDischargeDepth := 40) [*]

@[simp] theorem State.via_takeSpinOff {ps : List Part} {s₀ s : State} (h : s₀.via ps s) (_ : Part.line ∈ ps) (_
    : Part.req ∈ ps) (_ : Part.pub ∈ ps) (_ : Part.locks ∈ ps) (_ : Part.drv ∈ ps) (_ : Part.op ∈ ps) (e :
    ReqEntry) :
    s₀.via ps (takeSpinOff e s) := by
  unfold takeSpinOff; repeat' split
  all_goals simp (maxDischargeDepth := 40) [*]

end Sys2Proof.Machine
end

