-- ==== Sys2Proof/Laws/ViaNode.lean ====
section
/-! SUPPORT. The operations of the Kelly Tracker, the Lock Monitor and Node Control: the parts each touches. -/

namespace Sys2Proof.Machine

theorem pairwise_station_map {f : Peer → Peer} (hf : ∀ p, (f p).station = p.station) {ps : List Peer}
    (h : ps.Pairwise fun a b => a.station < b.station) : (ps.map f).Pairwise fun a b => a.station < b.station := by
  rw [List.pairwise_map]
  exact h.imp fun hab => by rw [hf, hf]; exact hab

theorem peersOrdered_map {f : Peer → Peer} (hf : ∀ p, (f p).station = p.station)
    (hp : ∀ p, p.presence ≠ .absent → (f p).presence ≠ .absent) {ps : List Peer} (h : peersOrdered ps) :
    peersOrdered (ps.map f) := by
  refine ⟨pairwise_station_map hf h.1, fun q hq => ?_⟩
  obtain ⟨p, hpm, rfl⟩ := List.mem_map.mp hq
  exact hp p (h.2 p hpm)

theorem peersOrdered_judgedLost (mult : Nat) {ps : List Peer} (h : peersOrdered ps) :
    peersOrdered (ps.map (Peer.judgedLost mult)) := by
  refine peersOrdered_map ?_ ?_ h
  · intro p; unfold Peer.judgedLost; split <;> rfl
  · intro p hp; unfold Peer.judgedLost; split
    · simp
    · exact hp

@[simp] theorem State.via_trackerFault {ps : List Part} {s₀ s : State} (h : s₀.via ps s) (_ : Part.node ∈ ps) (_
    : Part.line ∈ ps) (_ : Part.req ∈ ps) (_ : Part.pub ∈ ps) (_ : Part.trk ∈ ps) (_ : Part.drv ∈ ps) (_ :
    Part.op ∈ ps) (k : FaultKind) :
    s₀.via ps (State.trackerFault k s) := by
  unfold State.trackerFault; simp (maxDischargeDepth := 40) [*]

@[simp] theorem State.via_trackChange {ps : List Part} {s₀ s : State} (h : s₀.via ps s) (_ : Part.node ∈ ps) (_
    : Part.line ∈ ps) (_ : Part.req ∈ ps) (_ : Part.pub ∈ ps) (_ : Part.trk ∈ ps) (_ : Part.drv ∈ ps) (_ :
    Part.op ∈ ps) (c : Int) :
    s₀.via ps (State.trackChange c s) := by
  unfold State.trackChange; dsimp only; repeat' split
  all_goals simp (maxDischargeDepth := 40) [*]

@[simp] theorem State.via_suspend {ps : List Part} {s₀ s : State} (h : s₀.via ps s) (_ : Part.pub ∈ ps) (_ :
    Part.trk ∈ ps) (es : Int) :
    s₀.via ps (State.suspend es s) := by
  unfold State.suspend; simp (maxDischargeDepth := 40) [*]

@[simp] theorem State.via_resume {ps : List Part} {s₀ s : State} (h : s₀.via ps s) (_ : Part.pub ∈ ps) (_ :
    Part.trk ∈ ps) :
    s₀.via ps (s.resume) := by
  unfold State.resume; dsimp only; repeat' split
  all_goals simp (maxDischargeDepth := 40) [*]

@[simp] theorem State.via_rezeroUnknown {ps : List Part} {s₀ s : State} (h : s₀.via ps s) (_ : Part.pub ∈ ps) (_
    : Part.trk ∈ ps) :
    s₀.via ps (s.rezeroUnknown) := by
  unfold State.rezeroUnknown; simp (maxDischargeDepth := 40) [*]

@[simp] theorem State.via_trackHome {ps : List Part} {s₀ s : State} (h : s₀.via ps s) (_ : Part.pub ∈ ps) (_ :
    Part.trk ∈ ps) :
    s₀.via ps (s.trackHome) := by
  unfold State.trackHome; dsimp only; repeat' split
  all_goals simp (maxDischargeDepth := 40) [*]

@[simp] theorem State.via_trackMirrors {ps : List Part} {s₀ s : State} (h : s₀.via ps s) (_ : Part.node ∈ ps) (_
    : Part.line ∈ ps) (_ : Part.req ∈ ps) (_ : Part.pub ∈ ps) (_ : Part.trk ∈ ps) (_ : Part.drv ∈ ps) (_ :
    Part.op ∈ ps) (before : State) :
    s₀.via ps (State.trackMirrors before s) := by
  unfold State.trackMirrors; repeat' split
  all_goals simp (maxDischargeDepth := 40) [*]

@[simp] theorem State.via_trackRope {ps : List Part} {s₀ s : State} (h : s₀.via ps s) (_ : Part.node ∈ ps) (_ :
    Part.line ∈ ps) (_ : Part.req ∈ ps) (_ : Part.pub ∈ ps) (_ : Part.trk ∈ ps) (_ : Part.drv ∈ ps) (_ : Part.op
    ∈ ps) (before : State) :
    s₀.via ps (State.trackRope before s) := by
  unfold State.trackRope; repeat' split
  all_goals simp (maxDischargeDepth := 40) [*]

@[simp] theorem State.via_trackLossNoted {ps : List Part} {s₀ s : State} (h : s₀.via ps s) (_ : Part.line ∈ ps)
    (_ : Part.req ∈ ps) (_ : Part.pub ∈ ps) (_ : Part.drv ∈ ps) (_ : Part.op ∈ ps) (before : State) :
    s₀.via ps (State.trackLossNoted before s) := by
  unfold State.trackLossNoted; split
  · exact State.via_opTrackingLost h ‹_› ‹_› ‹_› ‹_› ‹_›
  · exact h

@[simp] theorem State.via_winchHandOn {ps : List Part} {s₀ s : State} (h : s₀.via ps s) (_ : Part.line ∈ ps) (_
    : Part.req ∈ ps) (_ : Part.pub ∈ ps) (_ : Part.drv ∈ ps) (_ : Part.op ∈ ps) (before : State) (rope : Bool) :
    s₀.via ps (State.winchHandOn before rope s) := by
  unfold State.winchHandOn; dsimp only; split
  · exact State.via_checkTop (State.via_checkPay h ‹_› ‹_› ‹_› ‹_› ‹_› _) ‹_› ‹_› ‹_› ‹_› ‹_›
  · exact State.via_checkPay h ‹_› ‹_› ‹_› ‹_› ‹_› _

@[simp] theorem State.via_holdTool {ps : List Part} {s₀ s : State} (h : s₀.via ps s) (_ : Part.pub ∈ ps) (_ :
    Part.drv ∈ ps) :
    s₀.via ps (s.holdTool) := by
  unfold State.holdTool; simp (maxDischargeDepth := 40) [*]

@[simp] theorem State.via_judgeTool {ps : List Part} {s₀ s : State} (h : s₀.via ps s) (_ : Part.pub ∈ ps) (_ :
    Part.drv ∈ ps) :
    s₀.via ps (s.judgeTool) := by
  unfold State.judgeTool; repeat' split
  all_goals simp (maxDischargeDepth := 40) [*]

@[simp] theorem State.via_takeAssertPicture {ps : List Part} {s₀ s : State} (h : s₀.via ps s) (_ : Part.line ∈
    ps) (_ : Part.req ∈ ps) (_ : Part.pub ∈ ps) (_ : Part.trk ∈ ps) (e : ReqEntry) :
    s₀.via ps (takeAssertPicture e s) := by
  unfold takeAssertPicture; dsimp only; repeat' split
  all_goals simp (maxDischargeDepth := 40) [*]

@[simp] theorem State.via_takeSetDatum {ps : List Part} {s₀ s : State} (h : s₀.via ps s) (_ : Part.line ∈ ps) (_
    : Part.req ∈ ps) (_ : Part.pub ∈ ps) (_ : Part.trk ∈ ps) (_ : Part.drv ∈ ps) (_ : Part.op ∈ ps) (e :
    ReqEntry) :
    s₀.via ps (takeSetDatum e s) := by
  unfold takeSetDatum; dsimp only; repeat' split
  all_goals simp (maxDischargeDepth := 40) [*]

@[simp] theorem State.via_seatEvent {ps : List Part} {s₀ s : State} (h : s₀.via ps s) (_ : Part.pub ∈ ps) (_ :
    Part.locks ∈ ps) :
    s₀.via ps (s.seatEvent) := by
  unfold State.seatEvent; dsimp only; split
  all_goals simp (maxDischargeDepth := 40) [*]

@[simp] theorem State.via_restartCheck {ps : List Part} {s₀ s : State} (h : s₀.via ps s) (_ : Part.line ∈ ps) (_
    : Part.req ∈ ps) (_ : Part.pub ∈ ps) (_ : Part.drv ∈ ps) (_ : Part.op ∈ ps) :
    s₀.via ps (s.restartCheck) := by
  unfold State.restartCheck; dsimp only; repeat' split
  all_goals simp (maxDischargeDepth := 40) [*]

@[simp] theorem State.via_checkReverse {ps : List Part} {s₀ s : State} (h : s₀.via ps s) (_ : Part.line ∈ ps) (_
    : Part.req ∈ ps) (_ : Part.pub ∈ ps) (_ : Part.drv ∈ ps) (_ : Part.op ∈ ps) :
    s₀.via ps (s.checkReverse) := by
  unfold State.checkReverse; dsimp only; repeat' split
  all_goals simp (maxDischargeDepth := 40) [*]

@[simp] theorem State.via_watchEnded {ps : List Part} {s₀ s : State} (h : s₀.via ps s) (_ : Part.line ∈ ps) (_ :
    Part.req ∈ ps) (_ : Part.pub ∈ ps) (_ : Part.drv ∈ ps) (_ : Part.op ∈ ps) (ofTurn : Bool) (res : Result)
    (why : Reason) (content : List Byte) :
    s₀.via ps (State.watchEnded ofTurn res why content s) := by
  unfold State.watchEnded; repeat' split
  all_goals simp (maxDischargeDepth := 40) [*]

@[simp] theorem State.via_checkSpin {ps : List Part} {s₀ s : State} (h : s₀.via ps s) (_ : Part.line ∈ ps) (_ :
    Part.req ∈ ps) (_ : Part.pub ∈ ps) (_ : Part.drv ∈ ps) (_ : Part.op ∈ ps) (change : Int) :
    s₀.via ps (State.checkSpin change s) := by
  unfold State.checkSpin; dsimp only; repeat' split
  all_goals simp (maxDischargeDepth := 40) [*]

@[simp] theorem State.via_turnForward {ps : List Part} {s₀ s : State} (h : s₀.via ps s) (_ : Part.line ∈ ps) (_
    : Part.req ∈ ps) (_ : Part.pub ∈ ps) (_ : Part.locks ∈ ps) (_ : Part.drv ∈ ps) (_ : Part.op ∈ ps) (n : Nat)
    :
    s₀.via ps (State.turnForward n s) := by
  unfold State.turnForward; dsimp only; repeat' split
  all_goals simp (maxDischargeDepth := 40) [*]

@[simp] theorem State.via_turnBack {ps : List Part} {s₀ s : State} (h : s₀.via ps s) (_ : Part.pub ∈ ps) (_ :
    Part.locks ∈ ps) (n : Nat) :
    s₀.via ps (State.turnBack n s) := by
  unfold State.turnBack; dsimp only; repeat' split
  all_goals simp (maxDischargeDepth := 40) [*]

@[simp] theorem State.via_turn {ps : List Part} {s₀ s : State} (h : s₀.via ps s) (_ : Part.sens ∈ ps) (_ :
    Part.line ∈ ps) (_ : Part.req ∈ ps) (_ : Part.pub ∈ ps) (_ : Part.locks ∈ ps) (_ : Part.drv ∈ ps) (_ :
    Part.op ∈ ps) (change : Int) :
    s₀.via ps (State.turn change s) := by
  unfold State.turn; dsimp only; split
  all_goals simp (maxDischargeDepth := 40) [*]

@[simp] theorem State.via_twisted {ps : List Part} {s₀ s : State} (h : s₀.via ps s) (_ : Part.line ∈ ps) (_ :
    Part.req ∈ ps) (_ : Part.pub ∈ ps) (_ : Part.locks ∈ ps) (_ : Part.drv ∈ ps) (_ : Part.op ∈ ps) :
    s₀.via ps (s.twisted) := by
  unfold State.twisted; dsimp only; repeat' split
  all_goals simp (maxDischargeDepth := 40) [*]

@[simp] theorem State.via_stallBoring {ps : List Part} {s₀ s : State} (h : s₀.via ps s) (_ : Part.line ∈ ps) (_
    : Part.req ∈ ps) (_ : Part.pub ∈ ps) (_ : Part.drv ∈ ps) (_ : Part.op ∈ ps) :
    s₀.via ps (s.stallBoring) := by
  unfold State.stallBoring; dsimp only; repeat' split
  all_goals simp (maxDischargeDepth := 40) [*]

@[simp] theorem State.via_stallTaken {ps : List Part} {s₀ s : State} (h : s₀.via ps s) (_ : Part.line ∈ ps) (_ :
    Part.req ∈ ps) (_ : Part.pub ∈ ps) (_ : Part.drv ∈ ps) (_ : Part.op ∈ ps) :
    s₀.via ps (s.stallTaken) := by
  unfold State.stallTaken; repeat' split
  all_goals simp (maxDischargeDepth := 40) [*]

@[simp] theorem State.via_slackOnState {ps : List Part} {s₀ s : State} (h : s₀.via ps s) (_ : Part.pub ∈ ps) (_
    : Part.drv ∈ ps) (old new : NodeState) :
    s₀.via ps (State.slackOnState old new s) := by
  unfold State.slackOnState; dsimp only; repeat' split
  all_goals simp (maxDischargeDepth := 40) [*]

@[simp] theorem State.via_toolOnState {ps : List Part} {s₀ s : State} (h : s₀.via ps s) (_ : Part.pub ∈ ps) (_ :
    Part.drv ∈ ps) (new : NodeState) :
    s₀.via ps (State.toolOnState new s) := by
  unfold State.toolOnState; repeat' split
  all_goals simp (maxDischargeDepth := 40) [*]

@[simp] theorem State.via_periodOnState {ps : List Part} {s₀ s : State} (h : s₀.via ps s) (_ : Part.pub ∈ ps)
    (old new : NodeState) :
    s₀.via ps (State.periodOnState old new s) := by
  unfold State.periodOnState; repeat' split
  all_goals simp (maxDischargeDepth := 40) [*]

@[simp] theorem State.via_setNodeState {ps : List Part} {s₀ s : State} (h : s₀.via ps s) (_ : Part.mode ∈ ps) (_
    : Part.node ∈ ps) (_ : Part.pub ∈ ps) (_ : Part.drv ∈ ps) (new : NodeState) :
    s₀.via ps (State.setNodeState new s) := by
  unfold State.setNodeState; dsimp only
  have h' : s₀.via ps (s.withNode { s.node with state := new }) :=
    State.via_withNode h ‹Part.node ∈ ps› _ rfl rfl (Or.inl ‹_›) (Or.inr ⟨rfl, rfl, rfl, rfl, rfl⟩) (fun hb => hb)
  simp (maxDischargeDepth := 40) [*]

@[simp] theorem State.via_unpark {ps : List Part} {s₀ s : State} (h : s₀.via ps s) (_ : Part.node ∈ ps) (_ :
    Part.drv ∈ ps) :
    s₀.via ps (s.unpark) := by
  unfold State.unpark
  refine State.via_withDrv ?_ ‹_› _
  refine State.via_withNode' ?_ ‹Part.node ∈ ps› _ ?_ ?_ ?_ ?_ ?_ ?_
  · exact h
  all_goals simp

@[simp] theorem State.via_faultDrive {ps : List Part} {s₀ s : State} (h : s₀.via ps s) (_ : Part.line ∈ ps) (_ :
    Part.req ∈ ps) (_ : Part.pub ∈ ps) (_ : Part.drv ∈ ps) :
    s₀.via ps (s.faultDrive) := by
  unfold State.faultDrive; dsimp only; repeat' split
  all_goals simp (maxDischargeDepth := 40) [*]

@[simp] theorem State.via_refuseHeld {ps : List Part} {s₀ s : State} (h : s₀.via ps s) (_ : Part.line ∈ ps) (_ :
    Part.req ∈ ps) :
    s₀.via ps (s.refuseHeld) := by
  unfold State.refuseHeld; exact State.via_foldl _ (fun _ _ h => State.via_reply h ‹_› ‹_› _ _ _ _) _ h

@[simp] theorem State.via_enterFault {ps : List Part} {s₀ s : State} (h : s₀.via ps s) (_ : Part.mode ∈ ps) (_ :
    Part.node ∈ ps) (_ : Part.line ∈ ps) (_ : Part.req ∈ ps) (_ : Part.pub ∈ ps) (_ : Part.drv ∈ ps) (_ :
    Part.op ∈ ps) :
    s₀.via ps (s.enterFault) := by
  unfold State.enterFault; dsimp only; apply State.via_setNodeState _ ‹_› ‹_› ‹_› ‹_›
  refine State.via_withNode ?_ ‹Part.node ∈ ps› _ rfl rfl (Or.inl ‹_›) (Or.inr ⟨rfl, rfl, rfl, rfl, rfl⟩) (fun hb => hb)
  split
  all_goals simp (maxDischargeDepth := 40) [*]

@[simp] theorem State.via_faultWith {ps : List Part} {s₀ s : State} (h : s₀.via ps s) (_ : Part.mode ∈ ps) (_ :
    Part.node ∈ ps) (_ : Part.line ∈ ps) (_ : Part.req ∈ ps) (_ : Part.pub ∈ ps) (_ : Part.drv ∈ ps) (_ :
    Part.op ∈ ps) (k : FaultKind) :
    s₀.via ps (State.faultWith k s) := by
  unfold State.faultWith; dsimp only; split
  all_goals simp (maxDischargeDepth := 40) [*]

@[simp] theorem State.via_roleConflict {ps : List Part} {s₀ s : State} (h : s₀.via ps s) (_ : Part.mode ∈ ps) (_
    : Part.node ∈ ps) (_ : Part.line ∈ ps) (_ : Part.req ∈ ps) (_ : Part.pub ∈ ps) (_ : Part.drv ∈ ps) (_ :
    Part.op ∈ ps) :
    s₀.via ps (s.roleConflict) := by
  unfold State.roleConflict; simp (maxDischargeDepth := 40) [*]

@[simp] theorem State.via_duplicateStation {ps : List Part} {s₀ s : State} (h : s₀.via ps s) (_ : Part.mode ∈
    ps) (_ : Part.node ∈ ps) (_ : Part.line ∈ ps) (_ : Part.req ∈ ps) (_ : Part.pub ∈ ps) (_ : Part.drv ∈ ps) (_
    : Part.op ∈ ps) :
    s₀.via ps (s.duplicateStation) := by
  unfold State.duplicateStation; dsimp only
  refine State.via_withReq (State.via_withQueue ?_ ‹_› _ fun _ => ⟨by decide, by decide, List.Pairwise.nil⟩) ‹_› _
    fun hb => ⟨hb.1, hb.2.1, hb.2.2.1, Nat.zero_le _, hb.2.2.2.2⟩
  simp (maxDischargeDepth := 40) [*]

@[simp] theorem State.via_beginPublishing {ps : List Part} {s₀ s : State} (h : s₀.via ps s) (_ : Part.pub ∈ ps) :
    s₀.via ps (s.beginPublishing) := by
  unfold State.beginPublishing; repeat' split
  all_goals simp (maxDischargeDepth := 40) [*]

@[simp] theorem State.via_leaveListen {ps : List Part} {s₀ s : State} (h : s₀.via ps s) (_ : Part.mode ∈ ps) (_
    : Part.node ∈ ps) (_ : Part.line ∈ ps) (_ : Part.req ∈ ps) (_ : Part.pub ∈ ps) (_ : Part.drv ∈ ps) (_ :
    Part.op ∈ ps) :
    s₀.via ps (s.leaveListen) := by
  unfold State.leaveListen; dsimp only
  have h' : s₀.via ps (s.withNode { s.node with listen := none }) :=
    State.via_withNode h ‹Part.node ∈ ps› _ rfl rfl (Or.inl ‹_›) (Or.inr ⟨rfl, rfl, rfl, rfl, rfl⟩) (fun hb => hb)
  repeat' split
  all_goals simp (maxDischargeDepth := 40) [*]

@[simp] theorem State.via_abortAll {ps : List Part} {s₀ s : State} (h : s₀.via ps s) (_ : Part.line ∈ ps) (_ :
    Part.req ∈ ps) (_ : Part.pub ∈ ps) (_ : Part.drv ∈ ps) (_ : Part.op ∈ ps) :
    s₀.via ps (s.abortAll) := by
  unfold State.abortAll; simp (maxDischargeDepth := 40) [*]

@[simp] theorem State.via_stopAsserted {ps : List Part} {s₀ s : State} (h : s₀.via ps s) (_ : Part.mode ∈ ps) (_
    : Part.node ∈ ps) (_ : Part.line ∈ ps) (_ : Part.req ∈ ps) (_ : Part.pub ∈ ps) (_ : Part.drv ∈ ps) (_ :
    Part.op ∈ ps) :
    s₀.via ps (s.stopAsserted) := by
  unfold State.stopAsserted; repeat' split
  all_goals simp (maxDischargeDepth := 40) [*]

@[simp] theorem State.via_halted {ps : List Part} {s₀ s : State} (h : s₀.via ps s) (_ : Part.line ∈ ps) (_ :
    Part.req ∈ ps) (_ : Part.pub ∈ ps) (_ : Part.drv ∈ ps) (_ : Part.op ∈ ps) :
    s₀.via ps (s.halted) := by
  unfold State.halted; repeat' split
  all_goals simp (maxDischargeDepth := 40) [*]

@[simp] theorem State.via_started {ps : List Part} {s₀ s : State} (h : s₀.via ps s) (_ : Part.mode ∈ ps) (_ :
    Part.node ∈ ps) (_ : Part.pub ∈ ps) (_ : Part.drv ∈ ps) :
    s₀.via ps (s.started) := by
  unfold State.started; repeat' split
  all_goals simp (maxDischargeDepth := 40) [*]

@[simp] theorem State.via_commitFails {ps : List Part} {s₀ s : State} (h : s₀.via ps s) (_ : Part.setup ∈ ps) (_
    : Part.node ∈ ps) (_ : Part.pub ∈ ps) (f : SetupFailure) :
    s₀.via ps (State.commitFails f s) := by
  unfold State.commitFails
  refine State.via_setFault ?_ ‹_› ‹_› _
  exact State.via_withNode h ‹Part.node ∈ ps› _ rfl rfl (Or.inr ⟨rfl, rfl⟩) (Or.inl ‹_›) (fun hb => hb)

@[simp] theorem State.via_commitTracker {ps : List Part} {s₀ s : State} (h : s₀.via ps s) (_ : Part.trk ∈ ps) :
    s₀.via ps (s.commitTracker) := by
  unfold State.commitTracker; dsimp only; repeat' split
  all_goals simp (maxDischargeDepth := 40) [*]

@[simp] theorem State.via_commitLocks {ps : List Part} {s₀ s : State} (h : s₀.via ps s) (_ : Part.locks ∈ ps) :
    s₀.via ps (s.commitLocks) := by
  unfold State.commitLocks; dsimp only; repeat' split
  all_goals simp (maxDischargeDepth := 40) [*]

@[simp] theorem State.via_commitRezero {ps : List Part} {s₀ s : State} (h : s₀.via ps s) (_ : Part.pub ∈ ps) (_
    : Part.trk ∈ ps) :
    s₀.via ps (s.commitRezero) := by
  unfold State.commitRezero; repeat' split
  all_goals simp (maxDischargeDepth := 40) [*]

@[simp] theorem State.via_commitSucceeds {ps : List Part} {s₀ s : State} (h : s₀.via ps s) (_ : Part.setup ∈ ps)
    (_ : Part.mode ∈ ps) (_ : Part.node ∈ ps) (_ : Part.line ∈ ps) (_ : Part.req ∈ ps) (_ : Part.peers ∈ ps) (_
    : Part.pub ∈ ps) (_ : Part.share ∈ ps) (_ : Part.trk ∈ ps) (_ : Part.locks ∈ ps) (_ : Part.drv ∈ ps) :
    s₀.via ps (s.commitSucceeds) := by
  unfold State.commitSucceeds; dsimp only
  apply State.via_setNodeState _ ‹_› ‹_› ‹_› ‹_›
  have hq : ∀ u : State, s₀.via ps u → s₀.via ps (u.commitRezero.recompute) := fun u hu =>
    State.via_recompute (State.via_commitRezero hu ‹_› ‹_›) ‹_› ‹_› ‹_›
  split
  · refine State.via_startPeriodic (hq _ ?_) ‹_›
    refine State.via_withPeers ?_ ‹_› _ (peersOrdered_judgedLost _)
    refine State.via_commitLocks (State.via_commitTracker ?_ ‹_›) ‹_›
    refine State.via_withReq ?_ ‹_› _ (fun hb => hb)
    refine State.via_withNode h ‹Part.node ∈ ps› _ ?_ ?_ (Or.inr ⟨?_, ?_⟩) (Or.inl ‹_›) (fun hb => hb) <;> rfl
  · refine hq _ ?_
    refine State.via_withPeers ?_ ‹_› _ (peersOrdered_judgedLost _)
    refine State.via_commitLocks (State.via_commitTracker ?_ ‹_›) ‹_›
    refine State.via_withReq ?_ ‹_› _ (fun hb => hb)
    refine State.via_withNode h ‹Part.node ∈ ps› _ ?_ ?_ (Or.inr ⟨?_, ?_⟩) (Or.inl ‹_›) (fun hb => hb) <;> rfl

@[simp] theorem State.via_commit {ps : List Part} {s₀ s : State} (h : s₀.via ps s) (_ : Part.setup ∈ ps) (_ :
    Part.mode ∈ ps) (_ : Part.node ∈ ps) (_ : Part.line ∈ ps) (_ : Part.req ∈ ps) (_ : Part.peers ∈ ps) (_ :
    Part.pub ∈ ps) (_ : Part.share ∈ ps) (_ : Part.trk ∈ ps) (_ : Part.locks ∈ ps) (_ : Part.drv ∈ ps) :
    s₀.via ps (s.commit) := by
  unfold State.commit; dsimp only; split
  all_goals simp (maxDischargeDepth := 40) [*]

@[simp] theorem State.via_takeItem {ps : List Part} {s₀ s : State} (h : s₀.via ps s) (_ : Part.setup ∈ ps) (_ :
    Part.mode ∈ ps) (_ : Part.node ∈ ps) (_ : Part.line ∈ ps) (_ : Part.req ∈ ps) (_ : Part.peers ∈ ps) (_ :
    Part.pub ∈ ps) (_ : Part.share ∈ ps) (_ : Part.trk ∈ ps) (_ : Part.locks ∈ ps) (_ : Part.drv ∈ ps) (r :
    ItemRecord) :
    s₀.via ps (State.takeItem r s) := by
  unfold State.takeItem
  have h1 : ∀ x b, s₀.via ps (s.withNode { s.node with items := x, badItems := b }) := fun x b =>
    State.via_withNode h ‹Part.node ∈ ps› _ rfl rfl (Or.inr ⟨rfl, rfl⟩) (Or.inl ‹_›) (fun hb => hb)
  split
  · exact h
  split
  · dsimp only
    split
    · exact State.via_commit (h1 _ _) ‹_› ‹_› ‹_› ‹_› ‹_› ‹_› ‹_› ‹_› ‹_› ‹_› ‹_›
    · exact h1 _ _
  · exact h1 _ _

@[simp] theorem State.via_clearIfGone {ps : List Part} {s₀ s : State} (h : s₀.via ps s) (_ : Part.node ∈ ps) (_
    : Part.pub ∈ ps) (k : FaultKind) :
    s₀.via ps (State.clearIfGone k s) := by
  unfold State.clearIfGone; dsimp only; split
  · refine State.via_withNode' (State.via_clearFault h ‹_› ‹_› k) ‹_› _ ?_ ?_ ?_ ?_ ?_ ?_ <;> simp
  · exact h

@[simp] theorem State.via_clearFaults {ps : List Part} {s₀ s : State} (h : s₀.via ps s) (_ : Part.node ∈ ps) (_
    : Part.pub ∈ ps) :
    s₀.via ps (s.clearFaults) := by
  unfold State.clearFaults; exact State.via_foldl _ (fun _ k h => State.via_clearIfGone h ‹_› ‹_› k) _ h

@[simp] theorem State.via_takeClearFault {ps : List Part} {s₀ s : State} (h : s₀.via ps s) (_ : Part.node ∈ ps)
    (_ : Part.line ∈ ps) (_ : Part.req ∈ ps) (_ : Part.pub ∈ ps) (e : ReqEntry) :
    s₀.via ps (takeClearFault e s) := by
  unfold takeClearFault; dsimp only; repeat' split
  all_goals simp (maxDischargeDepth := 40) [*]

@[simp] theorem State.via_takeResetNode {ps : List Part} {s₀ s : State} (h : s₀.via ps s) (_ : Part.line ∈ ps)
    (_ : Part.req ∈ ps) (e : ReqEntry) :
    s₀.via ps (takeResetNode e s) := by
  unfold takeResetNode; repeat' split
  all_goals simp (maxDischargeDepth := 40) [*]

@[simp] theorem State.via_beginPark {ps : List Part} {s₀ s : State} (h : s₀.via ps s) (_ : Part.mode ∈ ps) (_ :
    Part.node ∈ ps) (_ : Part.req ∈ ps) (_ : Part.pub ∈ ps) (_ : Part.drv ∈ ps) (e : ReqEntry) :
    s₀.via ps (State.beginPark e s) := by
  unfold State.beginPark; dsimp only
  refine State.via_setNodeState ?_ ‹_› ‹_› ‹_› ‹_› _
  refine State.via_setEntry (State.via_withDrv ?_ ‹_› _) ‹_› _ _
  refine State.via_withNode' ?_ ‹Part.node ∈ ps› _ ?_ ?_ ?_ ?_ ?_ ?_
  · exact h
  all_goals simp

@[simp] theorem State.via_takePark {ps : List Part} {s₀ s : State} (h : s₀.via ps s) (_ : Part.mode ∈ ps) (_ :
    Part.node ∈ ps) (_ : Part.line ∈ ps) (_ : Part.req ∈ ps) (_ : Part.pub ∈ ps) (_ : Part.drv ∈ ps) (e :
    ReqEntry) :
    s₀.via ps (takePark e s) := by
  unfold takePark; repeat' split
  all_goals simp (maxDischargeDepth := 40) [*]

@[simp] theorem State.via_beginWake {ps : List Part} {s₀ s : State} (h : s₀.via ps s) (_ : Part.node ∈ ps) (_ :
    Part.drv ∈ ps) :
    s₀.via ps (s.beginWake) := by
  unfold State.beginWake
  refine State.via_withDrv ?_ ‹_› _
  refine State.via_withNode' ?_ ‹Part.node ∈ ps› _ ?_ ?_ ?_ ?_ ?_ ?_
  · exact h
  all_goals simp

@[simp] theorem State.via_interruptPark {ps : List Part} {s₀ s : State} (h : s₀.via ps s) (_ : Part.node ∈ ps)
    (_ : Part.drv ∈ ps) :
    s₀.via ps (s.interruptPark) := by
  unfold State.interruptPark; split
  · exact State.via_beginWake h ‹_› ‹_›
  · refine State.via_withNode' ?_ ‹Part.node ∈ ps› _ ?_ ?_ ?_ ?_ ?_ ?_
    · exact h
    all_goals simp
  · exact h

@[simp] theorem State.via_holdBroadcast {ps : List Part} {s₀ s : State} (h : s₀.via ps s) (_ : Part.node ∈ ps)
    (_ : Part.drv ∈ ps) (b : Broadcast) :
    s₀.via ps (State.holdBroadcast b s) := by
  unfold State.holdBroadcast; split
  · dsimp only
    refine State.via_interruptPark ?_ ‹_› ‹_›
    refine State.via_withNode' ?_ ‹Part.node ∈ ps› _ ?_ ?_ ?_ ?_ ?_ ?_
    · exact h
    all_goals simp
    omega
  · exact h

@[simp] theorem State.via_replyPark {ps : List Part} {s₀ s : State} (h : s₀.via ps s) (_ : Part.line ∈ ps) (_ :
    Part.req ∈ ps) (res : Result) :
    s₀.via ps (State.replyPark res s) := by
  unfold State.replyPark; repeat' split
  all_goals simp (maxDischargeDepth := 40) [*]

@[simp] theorem State.replyPark_node (res : Result) (s : State) : (s.replyPark res).node = s.node :=
  (State.via_replyPark (State.via_refl [.line, .req] s) (by simp) (by simp) res).same .node (by simp)

@[simp] theorem State.via_parkEntered {ps : List Part} {s₀ s : State} (h : s₀.via ps s) (_ : Part.node ∈ ps) (_
    : Part.line ∈ ps) (_ : Part.req ∈ ps) (_ : Part.drv ∈ ps) :
    s₀.via ps (s.parkEntered) := by
  unfold State.parkEntered; split
  · exact State.via_beginWake (State.via_replyPark h ‹_› ‹_› _) ‹_› ‹_›
  · refine State.via_withNode' (State.via_replyPark h ‹_› ‹_› .done) ‹Part.node ∈ ps› _ ?_ ?_ ?_ ?_ ?_ ?_
    all_goals simp

@[simp] theorem State.via_wake {ps : List Part} {s₀ s : State} (h : s₀.via ps s) (_ : Part.mode ∈ ps) (_ :
    Part.node ∈ ps) (_ : Part.pub ∈ ps) (_ : Part.drv ∈ ps) :
    s₀.via ps (s.wake) := by
  unfold State.wake; dsimp only
  refine State.via_setNodeState ?_ ‹_› ‹_› ‹_› ‹_› _
  refine State.via_withNode' ?_ ‹Part.node ∈ ps› _ ?_ ?_ ?_ ?_ ?_ ?_
  · exact h
  all_goals simp

end Sys2Proof.Machine
end

