-- ==== Sys2Proof/Laws/ViaEvents.lean ====
section
/-! SUPPORT. The operations of the Request Unit, the Peer Table, the Line Port and the events: the parts each
touches. -/

namespace Sys2Proof.Machine

@[simp] theorem State.via_takeWinchMove {ps : List Part} {s₀ s : State} (h : s₀.via ps s) (_ : Part.line ∈ ps)
    (_ : Part.req ∈ ps) (_ : Part.pub ∈ ps) (_ : Part.locks ∈ ps) (_ : Part.drv ∈ ps) (_ : Part.op ∈ ps) (e :
    ReqEntry) :
    s₀.via ps (takeWinchMove e s) := by
  unfold takeWinchMove; repeat' split
  all_goals simp (maxDischargeDepth := 40) [*]

@[simp] theorem State.via_takeCrowdMove {ps : List Part} {s₀ s : State} (h : s₀.via ps s) (_ : Part.line ∈ ps)
    (_ : Part.req ∈ ps) (_ : Part.pub ∈ ps) (_ : Part.locks ∈ ps) (_ : Part.drv ∈ ps) (_ : Part.op ∈ ps) (e :
    ReqEntry) :
    s₀.via ps (takeCrowdMove e s) := by
  unfold takeCrowdMove; repeat' split
  all_goals simp (maxDischargeDepth := 40) [*]

@[simp] theorem State.via_takeRotaryMove {ps : List Part} {s₀ s : State} (h : s₀.via ps s) (_ : Part.line ∈ ps)
    (_ : Part.req ∈ ps) (_ : Part.pub ∈ ps) (_ : Part.locks ∈ ps) (_ : Part.drv ∈ ps) (_ : Part.op ∈ ps) (e :
    ReqEntry) :
    s₀.via ps (takeRotaryMove e s) := by
  unfold takeRotaryMove; repeat' split
  all_goals simp (maxDischargeDepth := 40) [*]

@[simp] theorem State.via_takeLock {ps : List Part} {s₀ s : State} (h : s₀.via ps s) (_ : Part.line ∈ ps) (_ :
    Part.req ∈ ps) (_ : Part.pub ∈ ps) (_ : Part.locks ∈ ps) (_ : Part.drv ∈ ps) (_ : Part.op ∈ ps) (e :
    ReqEntry) :
    s₀.via ps (takeLock e s) := by
  unfold takeLock; repeat' split
  all_goals simp (maxDischargeDepth := 40) [*]

@[simp] theorem State.via_takeRelease {ps : List Part} {s₀ s : State} (h : s₀.via ps s) (_ : Part.line ∈ ps) (_
    : Part.req ∈ ps) (_ : Part.pub ∈ ps) (_ : Part.locks ∈ ps) (_ : Part.drv ∈ ps) (_ : Part.op ∈ ps) (e :
    ReqEntry) :
    s₀.via ps (takeRelease e s) := by
  unfold takeRelease; repeat' split
  all_goals simp (maxDischargeDepth := 40) [*]

@[simp] theorem State.via_takeToolOpen {ps : List Part} {s₀ s : State} (h : s₀.via ps s) (_ : Part.line ∈ ps) (_
    : Part.req ∈ ps) (_ : Part.pub ∈ ps) (_ : Part.drv ∈ ps) (e : ReqEntry) :
    s₀.via ps (takeToolOpen e s) := by
  unfold takeToolOpen; dsimp only; repeat' split
  all_goals simp (maxDischargeDepth := 40) [*]

@[simp] theorem State.via_takeToolClose {ps : List Part} {s₀ s : State} (h : s₀.via ps s) (_ : Part.line ∈ ps)
    (_ : Part.req ∈ ps) (_ : Part.pub ∈ ps) (_ : Part.drv ∈ ps) (e : ReqEntry) :
    s₀.via ps (takeToolClose e s) := by
  unfold takeToolClose; dsimp only; repeat' split
  all_goals simp (maxDischargeDepth := 40) [*]

@[simp] theorem State.via_takeToolHold {ps : List Part} {s₀ s : State} (h : s₀.via ps s) (_ : Part.line ∈ ps) (_
    : Part.req ∈ ps) (_ : Part.pub ∈ ps) (_ : Part.drv ∈ ps) (e : ReqEntry) :
    s₀.via ps (takeToolHold e s) := by
  unfold takeToolHold; repeat' split
  all_goals simp (maxDischargeDepth := 40) [*]

@[simp] theorem State.via_takeQueryKelly {ps : List Part} {s₀ s : State} (h : s₀.via ps s) (_ : Part.line ∈ ps)
    (_ : Part.req ∈ ps) (e : ReqEntry) :
    s₀.via ps (takeQueryKelly e s) := by
  unfold takeQueryKelly; simp (maxDischargeDepth := 40) [*]

@[simp] theorem State.via_takeQueryLocks {ps : List Part} {s₀ s : State} (h : s₀.via ps s) (_ : Part.line ∈ ps)
    (_ : Part.req ∈ ps) (e : ReqEntry) :
    s₀.via ps (takeQueryLocks e s) := by
  unfold takeQueryLocks; simp (maxDischargeDepth := 40) [*]

@[simp] theorem State.via_takeQueryCrowd {ps : List Part} {s₀ s : State} (h : s₀.via ps s) (_ : Part.line ∈ ps)
    (_ : Part.req ∈ ps) (e : ReqEntry) :
    s₀.via ps (takeQueryCrowd e s) := by
  unfold takeQueryCrowd; repeat' split
  all_goals simp (maxDischargeDepth := 40) [*]

@[simp] theorem State.via_takeQueryPeer {ps : List Part} {s₀ s : State} (h : s₀.via ps s) (_ : Part.line ∈ ps)
    (_ : Part.req ∈ ps) (e : ReqEntry) :
    s₀.via ps (takeQueryPeer e s) := by
  unfold takeQueryPeer; dsimp only; repeat' split
  all_goals simp (maxDischargeDepth := 40) [*]

@[simp] theorem State.via_takeQueryNode {ps : List Part} {s₀ s : State} (h : s₀.via ps s) (_ : Part.line ∈ ps)
    (_ : Part.req ∈ ps) (e : ReqEntry) :
    s₀.via ps (takeQueryNode e s) := by
  unfold takeQueryNode; repeat' split
  all_goals simp (maxDischargeDepth := 40) [*]

@[simp] theorem State.via_destination {ps : List Part} {s₀ s : State} (h : s₀.via ps s) (_ : Part.mode ∈ ps) (_
    : Part.node ∈ ps) (_ : Part.line ∈ ps) (_ : Part.req ∈ ps) (_ : Part.pub ∈ ps) (_ : Part.trk ∈ ps) (_ :
    Part.locks ∈ ps) (_ : Part.drv ∈ ps) (_ : Part.op ∈ ps) (fn : Nat) (e : ReqEntry) :
    s₀.via ps (destination fn e s) := by
  unfold destination; split <;> simp (maxDischargeDepth := 40) [*]

/-- A frame offered leaves the request table, the tags and the entry numbers. -/
theorem State.offer_table (f : TxFrame) (s : State) : (s.offer f).req.table = s.req.table := by
  unfold State.offer State.offerAt State.dropped State.dropRecord State.withQueue
  dsimp only
  repeat' split
  all_goals simp

theorem State.offer_nextId (f : TxFrame) (s : State) : (s.offer f).req.nextId = s.req.nextId := by
  unfold State.offer State.offerAt State.dropped State.dropRecord State.withQueue
  dsimp only
  repeat' split
  all_goals simp

theorem State.via_enterRequest {ps : List Part} {s₀ s : State} (h : s₀.via ps s) (h1 : Part.line ∈ ps)
    (h2 : Part.req ∈ ps) (r : Request) (act : ReqEntry → State → State)
    (ha : ∀ e u, s₀.via ps u → s₀.via ps (act e u)) : s₀.via ps (s.enterRequest r act) := by
  unfold State.enterRequest
  split
  · exact h
  split
  · simp [*]
  · rename_i hlen
    dsimp only
    refine ha _ _ (State.via_withReq (State.via_offer h h1 h2 _) h2 _ fun hb => ?_)
    rw [State.offer_table]
    have hb1 := hb.1
    have hb2 := hb.2.1
    have hb3 := hb.2.2.1
    rw [State.offer_table] at hb1 hb2 hb3
    rw [State.offer_nextId] at hb3
    refine ⟨?_, ?_, ?_, hb.2.2.2⟩
    · simp only [List.length_append, List.length_cons, List.length_nil]; omega
    · rw [List.map_append, List.map_cons, List.map_nil]
      refine List.Nodup.append hb2 (by simp) ?_
      intro x hx hx'
      obtain ⟨e, he, rfl⟩ := List.mem_map.mp hx
      have := hb3 e he
      simp at hx'
      omega
    · intro e he
      rcases List.mem_append.mp he with he | he
      · exact Nat.lt_succ_of_lt (hb3 e he)
      · simp at he; subst he; simp

theorem State.via_gated {ps : List Part} {s₀ s : State} (h : s₀.via ps s) (h1 : Part.line ∈ ps) (h2 : Part.req ∈ ps)
    (h3 : Part.node ∈ ps) (h4 : Part.drv ∈ ps) (take : ReqEntry → State → State)
    (ht : ∀ e u, s₀.via ps u → s₀.via ps (take e u)) (e : ReqEntry) : s₀.via ps (s.gated take e) := by
  unfold State.gated
  split
  · exact ht _ _ h
  · exact State.via_reply h h1 h2 _ _ _ _
  · exact State.via_interruptPark h h3 h4

theorem State.via_handleRequest {ps : List Part} {s₀ s : State} (h : s₀.via ps s) (h1 : Part.line ∈ ps)
    (h2 : Part.req ∈ ps) (h3 : Part.node ∈ ps) (h4 : Part.drv ∈ ps) (take : ReqEntry → State → State)
    (ht : ∀ e u, s₀.via ps u → s₀.via ps (take e u)) (f : RxFrame) : s₀.via ps (s.handleRequest take f) := by
  unfold State.handleRequest
  split
  · exact State.via_enterRequest h h1 h2 _ _ fun e u hu => State.via_gated hu h1 h2 h3 h4 take ht e
  · exact h

@[simp] theorem State.via_refuseRequest {ps : List Part} {s₀ s : State} (h : s₀.via ps s) (h1 : Part.line ∈ ps)
    (h2 : Part.req ∈ ps) (f : RxFrame) : s₀.via ps (s.refuseRequest f) := by
  unfold State.refuseRequest
  split
  · exact State.via_enterRequest h h1 h2 _ _ fun e u hu => State.via_reply hu h1 h2 _ _ _ _
  · exact h

@[simp] theorem State.via_actBroadcast {ps : List Part} {s₀ s : State} (h : s₀.via ps s) (_ : Part.mode ∈ ps) (_
    : Part.node ∈ ps) (_ : Part.line ∈ ps) (_ : Part.req ∈ ps) (_ : Part.pub ∈ ps) (_ : Part.drv ∈ ps) (_ :
    Part.op ∈ ps) (b : Broadcast) :
    s₀.via ps (State.actBroadcast b s) := by
  unfold State.actBroadcast; repeat' split
  all_goals simp (maxDischargeDepth := 40) [*]

@[simp] theorem State.via_takeBroadcast {ps : List Part} {s₀ s : State} (h : s₀.via ps s) (_ : Part.mode ∈ ps)
    (_ : Part.node ∈ ps) (_ : Part.line ∈ ps) (_ : Part.req ∈ ps) (_ : Part.pub ∈ ps) (_ : Part.drv ∈ ps) (_ :
    Part.op ∈ ps) (b : Broadcast) :
    s₀.via ps (State.takeBroadcast b s) := by
  unfold State.takeBroadcast; repeat' split
  all_goals simp (maxDischargeDepth := 40) [*]

@[simp] theorem State.via_takeHeld {ps : List Part} {s₀ s : State} (h : s₀.via ps s) (_ : Part.mode ∈ ps) (_ :
    Part.node ∈ ps) (_ : Part.line ∈ ps) (_ : Part.req ∈ ps) (_ : Part.pub ∈ ps) (_ : Part.trk ∈ ps) (_ :
    Part.locks ∈ ps) (_ : Part.drv ∈ ps) (_ : Part.op ∈ ps) (item : HeldBroadcast ⊕ ReqEntry) :
    s₀.via ps (State.takeHeld item s) := by
  unfold State.takeHeld; split
  · exact State.via_actBroadcast h ‹_› ‹_› ‹_› ‹_› ‹_› ‹_› ‹_› _
  · split
    · exact State.via_gated h ‹_› ‹_› ‹_› ‹_› _
        (fun e u hu => State.via_destination hu ‹_› ‹_› ‹_› ‹_› ‹_› ‹_› ‹_› ‹_› ‹_› _ e) _
    · exact h

@[simp] theorem State.via_wakeAndTake {ps : List Part} {s₀ s : State} (h : s₀.via ps s) (_ : Part.mode ∈ ps) (_
    : Part.node ∈ ps) (_ : Part.line ∈ ps) (_ : Part.req ∈ ps) (_ : Part.pub ∈ ps) (_ : Part.trk ∈ ps) (_ :
    Part.locks ∈ ps) (_ : Part.drv ∈ ps) (_ : Part.op ∈ ps) :
    s₀.via ps (s.wakeAndTake) := by
  unfold State.wakeAndTake; dsimp only
  exact State.via_foldl _ (fun _ i hs => State.via_takeHeld hs ‹_› ‹_› ‹_› ‹_› ‹_› ‹_› ‹_› ‹_› ‹_› i) _
    (State.via_wake h ‹_› ‹_› ‹_› ‹_›)

@[simp] theorem State.via_makeRoom {ps : List Part} {s₀ s : State} (h : s₀.via ps s) (_ : Part.line ∈ ps) (_ :
    Part.req ∈ ps) :
    s₀.via ps (s.makeRoom) := by
  unfold State.makeRoom; repeat' split
  all_goals simp (maxDischargeDepth := 40) [*]

theorem State.makeRoom_length (s : State) (h : s.req.defaults.length ≤ 8) : s.makeRoom.req.defaults.length < 8 := by
  unfold State.makeRoom
  split
  · rename_i heq; rw [heq]; decide
  · rename_i r rest heq
    split
    · have hl : (s.req.defaults.filter fun x => x.id != r.id).length ≤ rest.length := by
        rw [heq, List.filter_cons_of_neg (by simp)]
        exact List.length_filter_le _ _
      have : s.req.defaults.length = rest.length + 1 := by rw [heq]; rfl
      simp only [State.withdraw, State.dropRecord, State.withLine_req, State.withReq_req]
      omega
    · omega

@[simp] theorem State.via_watchRequest {ps : List Part} {s₀ s : State} (h : s₀.via ps s) (h1 : Part.line ∈ ps)
    (h2 : Part.req ∈ ps) (f : RxFrame) : s₀.via ps (s.watchRequest f) := by
  unfold State.watchRequest
  split
  · exact h
  split
  · dsimp only
    have hr := State.via_makeRoom (State.via_refl [.line, .req] s) (by simp) (by simp)
    have hm := State.via_makeRoom h h1 h2
    refine ⟨⟨hm.1.1, fun p hp => ?_⟩, fun hb => ?_⟩
    · exact Part.same_trans (hm.1.2 p hp) (by cases p <;> simp_all [Part.same])
    · have hb' := hm.2 hb
      have hl := State.makeRoom_length s (h.2 hb).2.1.2.2.2.1
      refine ⟨hb'.1, ⟨hb'.2.1.1, hb'.2.1.2.1, fun e he => Nat.lt_succ_of_lt (hb'.2.1.2.2.1 e he), ?_, hb'.2.1.2.2.2.2⟩,
        hb'.2.2⟩
      simp; omega
  · exact h

@[simp] theorem State.via_settleRecords {ps : List Part} {s₀ s : State} (h : s₀.via ps s) (_ : Part.line ∈ ps)
    (_ : Part.req ∈ ps) (f : RxFrame) :
    s₀.via ps (State.settleRecords f s) := by
  unfold State.settleRecords; split
  · exact h
  · exact State.via_foldl _ (fun _ _ hs => State.via_withdraw (State.via_dropRecord hs ‹_› _) ‹_› _) _ h

theorem State.via_mapDefaults {ps : List Part} {s₀ s : State} (h : s₀.via ps s) (h1 : Part.req ∈ ps)
    (f : DefaultRec → DefaultRec) : s₀.via ps (s.withReq { s.req with defaults := s.req.defaults.map f }) :=
  State.via_withReq h h1 _ fun hb => ⟨hb.1, hb.2.1, hb.2.2.1, by simpa using hb.2.2.2.1, hb.2.2.2.2⟩

@[simp] theorem State.via_fastEnds {ps : List Part} {s₀ s : State} (h : s₀.via ps s) (_ : Part.line ∈ ps) (_ :
    Part.req ∈ ps) (r : DefaultRec) :
    s₀.via ps (State.fastEnds r s) := by
  unfold State.fastEnds; dsimp only
  split
  · exact State.via_offer (State.via_mapDefaults (State.via_mapDefaults h ‹_› _) ‹_› _) ‹_› ‹_› _
  · exact State.via_mapDefaults h ‹_› _

@[simp] theorem State.via_slowEnds {ps : List Part} {s₀ s : State} (h : s₀.via ps s) (_ : Part.line ∈ ps) (_ :
    Part.req ∈ ps) (n : Nat) :
    s₀.via ps (State.slowEnds n s) := by
  unfold State.slowEnds; simp (maxDischargeDepth := 40) [*]

@[simp] theorem State.via_defaultClaimSent {ps : List Part} {s₀ s : State} (h : s₀.via ps s) (_ : Part.line ∈
    ps) (_ : Part.req ∈ ps) (n : Nat) :
    s₀.via ps (State.defaultClaimSent n s) := by
  unfold State.defaultClaimSent; split
  · exact h
  · exact State.via_offerAll (State.via_mapDefaults h ‹_› _) ‹_› ‹_› _

/-! ### The Peer Table (Machine/Peers.lean) -/

theorem mem_putPeer {p q : Peer} {ps : List Peer} (h : q ∈ putPeer p ps) : q = p ∨ q ∈ ps := by
  induction ps with
  | nil => simpa [putPeer] using h
  | cons r rs ih =>
    unfold putPeer at h
    split at h
    · rcases List.mem_cons.mp h with h | h <;> simp [h]
    · split at h
      · rcases List.mem_cons.mp h with h | h <;> simp [h]
      · rcases List.mem_cons.mp h with h | h
        · simp [h]
        · rcases ih h with h | h <;> simp [h]

theorem pairwise_putPeer (p : Peer) {ps : List Peer} (h : ps.Pairwise fun a b => a.station < b.station) :
    (putPeer p ps).Pairwise fun a b => a.station < b.station := by
  induction ps with
  | nil => simp [putPeer]
  | cons r rs ih =>
    obtain ⟨h1, h2⟩ := List.pairwise_cons.mp h
    unfold putPeer
    split
    · rename_i hlt
      refine List.pairwise_cons.mpr ⟨fun q hq => ?_, h⟩
      rcases List.mem_cons.mp hq with hq | hq
      · exact hq ▸ hlt
      · exact lt_trans hlt (h1 q hq)
    · split
      · rename_i _ heq
        refine List.pairwise_cons.mpr ⟨fun q hq => ?_, h2⟩
        simp at heq
        have := h1 q hq
        omega
      · rename_i h3 h4
        refine List.pairwise_cons.mpr ⟨fun q hq => ?_, ih h2⟩
        rcases mem_putPeer hq with hq | hq
        · subst hq; simp at h4; omega
        · exact h1 q hq

theorem peersOrdered_putPeer {p : Peer} (hp : p.presence ≠ .absent) {ps : List Peer} (h : peersOrdered ps) :
    peersOrdered (putPeer p ps) := by
  refine ⟨pairwise_putPeer p h.1, fun q hq => ?_⟩
  rcases mem_putPeer hq with hq | hq
  · exact hq ▸ hp
  · exact h.2 q hq

@[simp] theorem State.via_compareRole {ps : List Part} {s₀ s : State} (h : s₀.via ps s) (_ : Part.mode ∈ ps) (_
    : Part.node ∈ ps) (_ : Part.line ∈ ps) (_ : Part.req ∈ ps) (_ : Part.pub ∈ ps) (_ : Part.drv ∈ ps) (_ :
    Part.op ∈ ps) (accepted : Option Nat) :
    s₀.via ps (State.compareRole accepted s) := by
  unfold State.compareRole; repeat' split
  all_goals simp (maxDischargeDepth := 40) [*]

@[simp] theorem State.via_trackerTakes {ps : List Part} {s₀ s : State} (h : s₀.via ps s) (_ : Part.node ∈ ps) (_
    : Part.line ∈ ps) (_ : Part.req ∈ ps) (_ : Part.pub ∈ ps) (_ : Part.trk ∈ ps) (_ : Part.drv ∈ ps) (_ :
    Part.op ∈ ps) (before : State) :
    s₀.via ps (State.trackerTakes before s) := by
  unfold State.trackerTakes; repeat' split
  all_goals simp (maxDischargeDepth := 40) [*]

@[simp] theorem State.via_handOn {ps : List Part} {s₀ s : State} (h : s₀.via ps s) (_ : Part.mode ∈ ps) (_ :
    Part.node ∈ ps) (_ : Part.line ∈ ps) (_ : Part.req ∈ ps) (_ : Part.pub ∈ ps) (_ : Part.share ∈ ps) (_ :
    Part.trk ∈ ps) (_ : Part.locks ∈ ps) (_ : Part.drv ∈ ps) (_ : Part.op ∈ ps) (before : State) (accepted :
    Option Nat) :
    s₀.via ps (State.handOn before accepted s) := by
  unfold State.handOn; simp (maxDischargeDepth := 40) [*]

@[simp] theorem State.via_takePublication {ps : List Part} {s₀ s : State} (h : s₀.via ps s) (_ : Part.mode ∈ ps)
    (_ : Part.node ∈ ps) (_ : Part.line ∈ ps) (_ : Part.req ∈ ps) (_ : Part.peers ∈ ps) (_ : Part.pub ∈ ps) (_ :
    Part.share ∈ ps) (_ : Part.trk ∈ ps) (_ : Part.locks ∈ ps) (_ : Part.drv ∈ ps) (_ : Part.op ∈ ps) (f :
    RxFrame) :
    s₀.via ps (State.takePublication f s) := by
  unfold State.takePublication; split
  · exact h
  · dsimp only
    refine State.via_handOn (State.via_withPeers h ‹_› _ (peersOrdered_putPeer ?_)) ‹_› ‹_› ‹_› ‹_› ‹_› ‹_› ‹_› ‹_› ‹_› ‹_› _ _
    simp [acceptedPeer]

/-- R150: an entry that ages is FRESH or AGED, and is not ABSENT afterwards. -/
theorem Peer.aged_present {p : Peer} {mult : Nat} (h : p.outgrown mult = true) : p.aged.presence ≠ .absent := by
  unfold Peer.outgrown at h
  unfold Peer.aged
  split <;> simp_all

/-- R151: an entry that an acceptance has made FRESH with age 0 does not age. -/
theorem Peer.outgrown_acceptedPeer (n mult : Nat) (p : Publication) : (acceptedPeer n p).outgrown mult = false := by
  simp [Peer.outgrown, acceptedPeer]

@[simp] theorem State.via_agingStep {ps : List Part} {s₀ s : State} (h : s₀.via ps s) (_ : Part.mode ∈ ps) (_ :
    Part.node ∈ ps) (_ : Part.line ∈ ps) (_ : Part.req ∈ ps) (_ : Part.peers ∈ ps) (_ : Part.pub ∈ ps) (_ :
    Part.share ∈ ps) (_ : Part.trk ∈ ps) (_ : Part.locks ∈ ps) (_ : Part.drv ∈ ps) (_ : Part.op ∈ ps) (n : Nat)
    :
    s₀.via ps (State.agingStep n s) := by
  unfold State.agingStep; split
  · split
    · rename_i p _ hl
      refine State.via_handOn (State.via_withPeers h ‹_› _ (peersOrdered_putPeer ?_)) ‹_› ‹_› ‹_› ‹_› ‹_› ‹_› ‹_› ‹_› ‹_› ‹_› _ _
      exact Peer.aged_present hl
    · exact h
  · exact h

@[simp] theorem State.via_fillOwnEntry {ps : List Part} {s₀ s : State} (h : s₀.via ps s) (_ : Part.peers ∈ ps)
    (_ : Part.share ∈ ps) (payload : List Byte) :
    s₀.via ps (State.fillOwnEntry payload s) := by
  unfold State.fillOwnEntry; split
  · dsimp only
    refine State.via_withShare (State.via_withPeers h ‹_› _ (peersOrdered_putPeer ?_)) ‹_› _
    simp [acceptedPeer]
  · exact h

@[simp] theorem State.via_published {ps : List Part} {s₀ s : State} (h : s₀.via ps s) (_ : Part.node ∈ ps) (_ :
    Part.line ∈ ps) (_ : Part.req ∈ ps) (_ : Part.peers ∈ ps) (_ : Part.pub ∈ ps) (_ : Part.share ∈ ps) (_ :
    Part.op ∈ ps) (n : Nat) (payload : List Byte) :
    s₀.via ps (State.published n payload s) := by
  unfold State.published; dsimp only; split
  all_goals simp (maxDischargeDepth := 40) [*]

/-! ### The rig line (Machine/Line.lean) -/

theorem State.via_withLine' {ps : List Part} {s₀ s : State} (h : s₀.via ps s) (h1 : Part.line ∈ ps)
    (h2 : Part.rx ∈ ps) (x : LinePort) (hx : s.line.bounded → x.bounded) : s₀.via ps (s.withLine x) :=
  State.via_withLine h h1 x hx (Or.inl h2)

theorem count255_le (n : Nat) : count255 n ≤ 255 := Nat.min_le_right _ _

@[simp] theorem State.via_withRx {ps : List Part} {s₀ s : State} (h : s₀.via ps s) (_ : Part.rx ∈ ps) (_ :
    Part.line ∈ ps) (rx : RxState) (chars : List Byte) :
    s₀.via ps (s.withRx rx chars) := by
  unfold State.withRx; exact State.via_withLine' h ‹_› ‹_› _ fun hb => hb

@[simp] theorem State.via_listenOnly {ps : List Part} {s₀ s : State} (h : s₀.via ps s) (_ : Part.rx ∈ ps) (_ :
    Part.line ∈ ps) (_ : Part.req ∈ ps) :
    s₀.via ps (s.listenOnly) := by
  unfold State.listenOnly; exact State.via_dropRecords (State.via_withLine' h ‹_› ‹_› _ fun hb => hb) ‹_› ‹_›

@[simp] theorem State.via_receiveError {ps : List Part} {s₀ s : State} (h : s₀.via ps s) (_ : Part.rx ∈ ps) (_ :
    Part.line ∈ ps) (_ : Part.req ∈ ps) (k : LineError) :
    s₀.via ps (State.receiveError k s) := by
  unfold State.receiveError; dsimp only
  have h' := State.via_withLine' h ‹_› ‹_›
    { s.line with errRun := count255 s.line.errRun, goodRun := 0, lastError := k }
    (fun hb => ⟨hb.1, hb.2.1, hb.2.2.1, hb.2.2.2.1, count255_le _, Nat.zero_le _⟩)
  split
  · exact State.via_listenOnly h' ‹_› ‹_› ‹_›
  · exact h'

@[simp] theorem State.via_goodFrame {ps : List Part} {s₀ s : State} (h : s₀.via ps s) (_ : Part.rx ∈ ps) (_ :
    Part.line ∈ ps) :
    s₀.via ps (s.goodFrame) := by
  unfold State.goodFrame; dsimp only
  refine State.via_withLine' h ‹_› ‹_› _ fun hb => ⟨hb.1, hb.2.1, hb.2.2.1, hb.2.2.2.1, Nat.zero_le _, count255_le _⟩

@[simp] theorem State.via_takeCharacter {ps : List Part} {s₀ s : State} (h : s₀.via ps s) (_ : Part.rx ∈ ps) (_
    : Part.line ∈ ps) (_ : Part.req ∈ ps) (data : Byte) :
    s₀.via ps (State.takeCharacter data s) := by
  unfold State.takeCharacter; repeat' split
  all_goals simp (maxDischargeDepth := 40) [*]

@[simp] theorem State.via_takeBadCharacter {ps : List Part} {s₀ s : State} (h : s₀.via ps s) (_ : Part.rx ∈ ps)
    (_ : Part.line ∈ ps) (_ : Part.req ∈ ps) (data : Byte) (parity stop : Bool) :
    s₀.via ps (State.takeBadCharacter data parity stop s) := by
  unfold State.takeBadCharacter; repeat' split
  all_goals simp (maxDischargeDepth := 40) [*]

@[simp] theorem State.via_storeFrame {ps : List Part} {s₀ s : State} (h : s₀.via ps s) (_ : Part.rx ∈ ps) (_ :
    Part.line ∈ ps) (f : RxFrame) :
    s₀.via ps (State.storeFrame f s) := by
  unfold State.storeFrame; split
  · refine State.via_withLine' h ‹_› ‹_› _ fun hb => ⟨hb.1, hb.2.1, hb.2.2.1, ?_, hb.2.2.2.2⟩
    simp; omega
  · exact State.via_withLine' h ‹_› ‹_› _ fun hb => hb

@[simp] theorem State.via_frameDone {ps : List Part} {s₀ s : State} (h : s₀.via ps s) (_ : Part.mode ∈ ps) (_ :
    Part.node ∈ ps) (_ : Part.rx ∈ ps) (_ : Part.line ∈ ps) (_ : Part.req ∈ ps) (_ : Part.pub ∈ ps) (_ :
    Part.drv ∈ ps) (_ : Part.op ∈ ps) (chars : List Byte) :
    s₀.via ps (State.frameDone chars s) := by
  unfold State.frameDone; dsimp only; split
  · simp (maxDischargeDepth := 40) [*]
  · split
    all_goals simp (maxDischargeDepth := 40) [*]

@[simp] theorem State.via_dropHeld {ps : List Part} {s₀ s : State} (h : s₀.via ps s) (_ : Part.rx ∈ ps) (_ :
    Part.line ∈ ps) :
    s₀.via ps (s.dropHeld) := by
  unfold State.dropHeld
  exact State.via_withLine' h ‹_› ‹_› _ fun hb => ⟨hb.1, hb.2.1, hb.2.2.1, le_trans (by simp) hb.2.2.2.1, hb.2.2.2.2⟩

@[simp] theorem State.via_quietFor {ps : List Part} {s₀ s : State} (h : s₀.via ps s) (_ : Part.rx ∈ ps) (_ :
    Part.line ∈ ps) (n : Nat) :
    s₀.via ps (State.quietFor n s) := by
  unfold State.quietFor; exact State.via_withLine' h ‹_› ‹_› _ fun hb => hb

@[simp] theorem State.via_clearShifter {ps : List Part} {s₀ s : State} (h : s₀.via ps s) (_ : Part.line ∈ ps) :
    s₀.via ps (s.clearShifter) := by
  unfold State.clearShifter
  exact State.via_withLine h ‹_› _ (fun hb => hb) (Or.inr ⟨rfl, rfl, rfl, rfl, rfl, rfl, rfl⟩)

@[simp] theorem State.via_startFrame {ps : List Part} {s₀ s : State} (h : s₀.via ps s) (_ : Part.line ∈ ps) :
    s₀.via ps (s.startFrame) := by
  unfold State.startFrame; split
  · rename_i f rest hq _ _
    split
    · refine State.via_withLine h ‹_› _ (fun hb => ?_) (Or.inr ⟨rfl, rfl, rfl, rfl, rfl, rfl, rfl⟩)
      have hqb := queueBounded_of hb
      rw [hq] at hqb
      refine LinePort.bounded_withQueue hb ⟨?_, ?_, ?_⟩ le_rfl rfl rfl
      · have := hqb.1; simp at this; exact le_trans (Nat.le_succ _) this
      · have := hqb.2.1; rw [publishes_cons] at this; exact le_trans (Nat.le_add_left _ _) this
      · exact (List.pairwise_cons.mp hqb.2.2).2
    · exact h
  · exact h

@[simp] theorem State.via_loseFrame {ps : List Part} {s₀ s : State} (h : s₀.via ps s) (_ : Part.line ∈ ps) (_ :
    Part.req ∈ ps) (_ : Part.pub ∈ ps) (_ : Part.drv ∈ ps) (_ : Part.op ∈ ps) :
    s₀.via ps (s.loseFrame) := by
  unfold State.loseFrame; dsimp only; repeat' split
  all_goals simp (maxDischargeDepth := 40) [*]

@[simp] theorem State.via_readBackFails {ps : List Part} {s₀ s : State} (h : s₀.via ps s) (_ : Part.node ∈ ps)
    (_ : Part.rx ∈ ps) (_ : Part.line ∈ ps) (_ : Part.req ∈ ps) (_ : Part.pub ∈ ps) (_ : Part.drv ∈ ps) (_ :
    Part.op ∈ ps) :
    s₀.via ps (s.readBackFails) := by
  unfold State.readBackFails; split
  · exact h
  · dsimp only
    refine State.via_loseFrame ?_ ‹_› ‹_› ‹_› ‹_› ‹_›
    refine State.via_signal (State.via_setFault (State.via_dropRecords ?_ ‹_› ‹_›) ‹_› ‹_› _) ‹_›
    refine State.via_withLine' h ‹_› ‹_› _ ?_
    exact fun hb => hb

@[simp] theorem State.via_report {ps : List Part} {s₀ s : State} (h : s₀.via ps s) (_ : Part.node ∈ ps) (_ :
    Part.line ∈ ps) (_ : Part.req ∈ ps) (_ : Part.peers ∈ ps) (_ : Part.pub ∈ ps) (_ : Part.share ∈ ps) (_ :
    Part.op ∈ ps) (f : TxFrame) :
    s₀.via ps (State.report f s) := by
  unfold State.report; split
  · simp (maxDischargeDepth := 40) [*]
  · split
    all_goals simp (maxDischargeDepth := 40) [*]
  all_goals simp (maxDischargeDepth := 40) [*]

@[simp] theorem State.via_frameSent {ps : List Part} {s₀ s : State} (h : s₀.via ps s) (_ : Part.node ∈ ps) (_ :
    Part.rx ∈ ps) (_ : Part.line ∈ ps) (_ : Part.req ∈ ps) (_ : Part.peers ∈ ps) (_ : Part.pub ∈ ps) (_ :
    Part.share ∈ ps) (_ : Part.op ∈ ps) :
    s₀.via ps (s.frameSent) := by
  unfold State.frameSent; repeat' split
  all_goals simp (maxDischargeDepth := 40) [*]

@[simp] theorem State.via_ropeMoved {ps : List Part} {s₀ s : State} (h : s₀.via ps s) (_ : Part.sens ∈ ps) (_ :
    Part.node ∈ ps) (_ : Part.line ∈ ps) (_ : Part.req ∈ ps) (_ : Part.pub ∈ ps) (_ : Part.trk ∈ ps) (_ :
    Part.drv ∈ ps) (_ : Part.op ∈ ps) (p : Int) :
    s₀.via ps (State.ropeMoved p s) := by
  unfold State.ropeMoved; simp (maxDischargeDepth := 40) [*]

@[simp] theorem State.via_judgeSlack {ps : List Part} {s₀ s : State} (h : s₀.via ps s) (_ : Part.pub ∈ ps) (_ :
    Part.drv ∈ ps) :
    s₀.via ps (s.judgeSlack) := by
  unfold State.judgeSlack; dsimp only; repeat' split
  all_goals simp (maxDischargeDepth := 40) [*]

@[simp] theorem State.via_cameHome {ps : List Part} {s₀ s : State} (h : s₀.via ps s) (_ : Part.sens ∈ ps) (_ :
    Part.line ∈ ps) (_ : Part.req ∈ ps) (_ : Part.pub ∈ ps) (_ : Part.trk ∈ ps) (_ : Part.drv ∈ ps) (_ : Part.op
    ∈ ps) :
    s₀.via ps (s.cameHome) := by
  unfold State.cameHome; simp (maxDischargeDepth := 40) [*]

@[simp] theorem State.via_restAt {ps : List Part} {s₀ s : State} (h : s₀.via ps s) (_ : Part.locks ∈ ps) (v : Int) :
    s₀.via ps (State.restAt v s) := by
  unfold State.restAt; dsimp only; repeat' split
  all_goals simp (maxDischargeDepth := 40) [*]

@[simp] theorem State.via_stopReleased {ps : List Part} {s₀ s : State} (h : s₀.via ps s) (_ : Part.mode ∈ ps) (_
    : Part.node ∈ ps) (_ : Part.pub ∈ ps) (_ : Part.drv ∈ ps) :
    s₀.via ps (s.stopReleased) := by
  unfold State.stopReleased; repeat' split
  all_goals simp (maxDischargeDepth := 40) [*]

@[simp] theorem State.via_brakeReleased {ps : List Part} {s₀ s : State} (h : s₀.via ps s) (_ : Part.line ∈ ps)
    (_ : Part.req ∈ ps) (_ : Part.pub ∈ ps) (_ : Part.locks ∈ ps) (_ : Part.drv ∈ ps) (_ : Part.op ∈ ps) :
    s₀.via ps (s.brakeReleased) := by
  unfold State.brakeReleased; simp (maxDischargeDepth := 40) [*]

@[simp] theorem State.via_replyHold {ps : List Part} {s₀ s : State} (h : s₀.via ps s) (_ : Part.line ∈ ps) (_ :
    Part.req ∈ ps) (_ : Part.drv ∈ ps) :
    s₀.via ps (s.replyHold) := by
  unfold State.replyHold; dsimp only; repeat' split
  all_goals simp (maxDischargeDepth := 40) [*]

@[simp] theorem State.via_brakeIsSet {ps : List Part} {s₀ s : State} (h : s₀.via ps s) (_ : Part.line ∈ ps) (_ :
    Part.req ∈ ps) (_ : Part.pub ∈ ps) (_ : Part.drv ∈ ps) :
    s₀.via ps (s.brakeIsSet) := by
  unfold State.brakeIsSet; dsimp only; repeat' split
  all_goals simp (maxDischargeDepth := 40) [*]

@[simp] theorem State.via_slackRaised {ps : List Part} {s₀ s : State} (h : s₀.via ps s) (_ : Part.node ∈ ps) (_
    : Part.line ∈ ps) (_ : Part.pub ∈ ps) (_ : Part.drv ∈ ps) :
    s₀.via ps (s.slackRaised) := by
  unfold State.slackRaised; simp (maxDischargeDepth := 40) [*]

@[simp] theorem State.via_stallExpired {ps : List Part} {s₀ s : State} (h : s₀.via ps s) (_ : Part.line ∈ ps) (_
    : Part.req ∈ ps) (_ : Part.pub ∈ ps) (_ : Part.drv ∈ ps) (_ : Part.op ∈ ps) :
    s₀.via ps (s.stallExpired) := by
  unfold State.stallExpired; simp (maxDischargeDepth := 40) [*]

@[simp] theorem State.via_sendBoundOut {ps : List Part} {s₀ s : State} (h : s₀.via ps s) (_ : Part.line ∈ ps) (_
    : Part.req ∈ ps) (_ : Part.pub ∈ ps) (_ : Part.drv ∈ ps) (_ : Part.op ∈ ps) (tag : Nat) :
    s₀.via ps (State.sendBoundOut tag s) := by
  unfold State.sendBoundOut; repeat' split
  all_goals simp (maxDischargeDepth := 40) [*]

@[simp] theorem State.via_slowWindowOut {ps : List Part} {s₀ s : State} (h : s₀.via ps s) (_ : Part.line ∈ ps)
    (_ : Part.req ∈ ps) (_ : Part.pub ∈ ps) (_ : Part.drv ∈ ps) (_ : Part.op ∈ ps) (tag : Nat) :
    s₀.via ps (State.slowWindowOut tag s) := by
  unfold State.slowWindowOut; repeat' split
  all_goals simp (maxDischargeDepth := 40) [*]

@[simp] theorem State.via_fastWindowOut {ps : List Part} {s₀ s : State} (h : s₀.via ps s) (_ : Part.line ∈ ps)
    (_ : Part.req ∈ ps) (n : Nat) :
    s₀.via ps (State.fastWindowOut n s) := by
  unfold State.fastWindowOut; repeat' split
  all_goals simp (maxDischargeDepth := 40) [*]

@[simp] theorem State.via_truncate {ps : List Part} {s₀ s : State} (h : s₀.via ps s) (_ : Part.rx ∈ ps) (_ :
    Part.line ∈ ps) (_ : Part.req ∈ ps) (bits : Nat) :
    s₀.via ps (State.truncate bits s) := by
  unfold State.truncate; dsimp only
  refine State.via_receiveError ?_ ‹_› ‹_› ‹_› _
  refine State.via_withLine' (State.via_quietFor h ‹_› ‹_› bits) ‹_› ‹_› _ ?_
  exact fun hb => hb

@[simp] theorem State.via_takeClaimFrame {ps : List Part} {s₀ s : State} (h : s₀.via ps s) (_ : Part.op ∈ ps) (f
    : RxFrame) :
    s₀.via ps (State.takeClaimFrame f s) := by
  unfold State.takeClaimFrame; repeat' split
  all_goals simp (maxDischargeDepth := 40) [*]

@[simp] theorem State.via_takeReplyFrame {ps : List Part} {s₀ s : State} (h : s₀.via ps s) (_ : Part.line ∈ ps)
    (_ : Part.req ∈ ps) (_ : Part.pub ∈ ps) (_ : Part.locks ∈ ps) (_ : Part.drv ∈ ps) (_ : Part.op ∈ ps) (f :
    RxFrame) :
    s₀.via ps (State.takeReplyFrame f s) := by
  unfold State.takeReplyFrame; repeat' split
  all_goals simp (maxDischargeDepth := 40) [*]

@[simp] theorem State.via_takeStopFrame {ps : List Part} {s₀ s : State} (h : s₀.via ps s) (_ : Part.node ∈ ps)
    (f : RxFrame) :
    s₀.via ps (State.takeStopFrame f s) := by
  unfold State.takeStopFrame
  refine State.via_withNode' h ‹Part.node ∈ ps› _ ?_ ?_ ?_ ?_ ?_ ?_
  all_goals simp

@[simp] theorem State.via_takeSetupFrame {ps : List Part} {s₀ s : State} (h : s₀.via ps s) (_ : Part.setup ∈ ps)
    (_ : Part.mode ∈ ps) (_ : Part.node ∈ ps) (_ : Part.line ∈ ps) (_ : Part.req ∈ ps) (_ : Part.peers ∈ ps) (_
    : Part.pub ∈ ps) (_ : Part.share ∈ ps) (_ : Part.trk ∈ ps) (_ : Part.locks ∈ ps) (_ : Part.drv ∈ ps) (f :
    RxFrame) :
    s₀.via ps (State.takeSetupFrame f s) := by
  unfold State.takeSetupFrame
  exact State.via_foldl _ (fun _ r hs => State.via_takeItem hs ‹_› ‹_› ‹_› ‹_› ‹_› ‹_› ‹_› ‹_› ‹_› ‹_› ‹_› r) _ h

end Sys2Proof.Machine
end

