-- ==== Sys2Proof/Laws/Exec.lean ====
section
/-! SUPPORT. What every command keeps: the commands that wait, the parts it does not touch, and the bounds. -/

namespace Sys2Proof.Machine

-- One theorem after another: many of these at once ask for more threads than memory allows.
set_option Elab.async false
set_option linter.unusedSimpArgs false

theorem State.finish_settled (s : State) : s.finish.settled := by
  unfold State.settled State.finish
  dsimp only
  split
  · split
    · have h := (State.via_offer_plain (State.via_refl [.line]
        ((s.withPub { s.pub with signal := false }).withPub
          { (s.withPub { s.pub with signal := false }).pub with
            builds := (s.withPub { s.pub with signal := false }).pub.builds + 1 })) (by simp)
        (s.withPub { s.pub with signal := false }).publishFrame rfl).same .pub (by simp)
      unfold State.buildPublish
      exact congrArg Assembler.signal h
    · rfl
  · rename_i h; simpa using h

theorem State.bounded_afterReset (c : ResetCause) (p : PriorState) (pins : Straps) (x : Sensors) (l : List Instr) :
    (State.afterReset c p pins x l).bounded := by
  refine ⟨⟨?_, ?_, ?_, ?_, ?_, ?_⟩, ⟨?_, ?_, ?_, ?_, ?_⟩, ⟨?_, ?_⟩, ?_⟩ <;>
    simp [State.afterReset, LinePort.reset, RequestUnit.reset, NodeCtl.afterReset]

theorem State.settled_afterReset (c : ResetCause) (p : PriorState) (pins : Straps) (x : Sensors) (l : List Instr) :
    (State.afterReset c p pins x l).settled := rfl

/-- The outcome of a reset that a RESET_NODE asked for. -/
def State.isRequestedReset (s t : State) : Prop :=
  ∃ p, t = State.afterReset .requested p s.node.pins s.sens s.pending

theorem taken_via {ps : List Part} {b : Bool} {act : State → State} {s t : State} (h1 : Part.pub ∈ ps)
    (h2 : Part.line ∈ ps) (ha : s.via ps (act s)) (h : taken b act s = .next t) : s.via ps t := by
  unfold taken at h
  obtain rfl := Host.Outcome.next.inj h
  cases b
  · exact State.via_refl _ _
  · exact State.via_finish ha h1 h2

theorem conclude_via {ps : List Part} {s u : State} (h1 : Part.pub ∈ ps) (h2 : Part.line ∈ ps)
    (h3 : Part.straps ∉ ps) (h4 : Part.sens ∉ ps) (hu : s.via ps u) :
    s.via ps u.conclude ∨ s.isRequestedReset u.conclude := by
  unfold State.conclude
  split
  · right
    have hs := hu.same .straps h3
    have hx := hu.same .sens h4
    refine ⟨priorOf u.node.state, ?_⟩
    unfold State.requestedReset State.resetWith
    rw [hs.2, hx, hu.pending]
  · left; exact State.via_finish hu h1 h2

theorem takenOnLine_via {ps : List Part} {b : Bool} {act : State → State} {s t : State} (h1 : Part.pub ∈ ps)
    (h2 : Part.line ∈ ps) (h3 : Part.straps ∉ ps) (h4 : Part.sens ∉ ps) (ha : s.via ps (act s))
    (h : takenOnLine b act s = .next t) : s.via ps t ∨ s.isRequestedReset t := by
  unfold takenOnLine at h
  obtain rfl := Host.Outcome.next.inj h
  cases b
  · left; exact State.via_refl _ _
  · exact conclude_via h1 h2 h3 h4 ha

theorem handled_via {ps : List Part} {row : Instr} {act : RxFrame → State → State} {s t : State} (h1 : Part.pub ∈ ps)
    (h2 : Part.line ∈ ps) (h3 : Part.rx ∈ ps) (ha : ∀ f u, s.via ps u → s.via ps (act f u))
    (h : handled row act s = .next t) : s.via ps t := by
  unfold handled at h
  split at h
  · obtain rfl := Host.Outcome.next.inj h
    exact State.via_finish (ha _ _ (State.via_dropHeld (State.via_refl _ _) h3 h2)) h1 h2
  · obtain rfl := Host.Outcome.next.inj h
    exact State.via_refl _ _

theorem request_via {ps : List Part} {row : Instr} {take : ReqEntry → State → State} {s t : State}
    (h1 : Part.pub ∈ ps) (h2 : Part.line ∈ ps) (h3 : Part.rx ∈ ps) (h4 : Part.req ∈ ps) (h5 : Part.node ∈ ps)
    (h6 : Part.drv ∈ ps) (ht : ∀ e u, s.via ps u → s.via ps (take e u))
    (h : handled row (State.handleRequest take) s = .next t) : s.via ps t :=
  handled_via h1 h2 h3 (fun _ _ hu => State.via_handleRequest hu h2 h4 h5 h6 take ht _) h

theorem exec_listenTimerExpiry_via {s t : State} (h : exec .listenTimerExpiry s = .next t) :
    s.via (Instr.touches .listenTimerExpiry) t := by
  change execListenTimerExpiry s = _ at h; unfold execListenTimerExpiry at h
  exact taken_via (by simp [Instr.touches, Part.nodeChange, Part.ending, Part.publication, Part.handOn]) (by simp [Instr.touches, Part.nodeChange, Part.ending, Part.publication, Part.handOn]) (by simp (maxDischargeDepth := 60) [Instr.touches, Part.nodeChange, Part.ending, Part.publication, Part.handOn]) h

theorem exec_stopLineAsserted_via {s t : State} (h : exec .stopLineAsserted s = .next t) :
    s.via (Instr.touches .stopLineAsserted) t := by
  change execStopLineAsserted s = _ at h; unfold execStopLineAsserted at h
  exact taken_via (by simp [Instr.touches, Part.nodeChange, Part.ending, Part.publication, Part.handOn]) (by simp [Instr.touches, Part.nodeChange, Part.ending, Part.publication, Part.handOn]) (by simp (maxDischargeDepth := 60) [Instr.touches, Part.nodeChange, Part.ending, Part.publication, Part.handOn]) h

theorem exec_stopLineReleased_via {s t : State} (h : exec .stopLineReleased s = .next t) :
    s.via (Instr.touches .stopLineReleased) t := by
  change execStopLineReleased s = _ at h; unfold execStopLineReleased at h
  exact taken_via (by simp [Instr.touches, Part.nodeChange, Part.ending, Part.publication, Part.handOn]) (by simp [Instr.touches, Part.nodeChange, Part.ending, Part.publication, Part.handOn]) (by simp (maxDischargeDepth := 60) [Instr.touches, Part.nodeChange, Part.ending, Part.publication, Part.handOn]) h

theorem exec_kellyHomeActive_via {s t : State} (h : exec .kellyHomeActive s = .next t) :
    s.via (Instr.touches .kellyHomeActive) t := by
  change execKellyHomeActive s = _ at h; unfold execKellyHomeActive at h
  exact taken_via (by simp [Instr.touches, Part.nodeChange, Part.ending, Part.publication, Part.handOn]) (by simp [Instr.touches, Part.nodeChange, Part.ending, Part.publication, Part.handOn]) (by simp (maxDischargeDepth := 60) [Instr.touches, Part.nodeChange, Part.ending, Part.publication, Part.handOn]) h

theorem exec_kellyHomeInactive_via {s t : State} (h : exec .kellyHomeInactive s = .next t) :
    s.via (Instr.touches .kellyHomeInactive) t := by
  change execKellyHomeInactive s = _ at h; unfold execKellyHomeInactive at h
  exact taken_via (by simp [Instr.touches, Part.nodeChange, Part.ending, Part.publication, Part.handOn]) (by simp [Instr.touches, Part.nodeChange, Part.ending, Part.publication, Part.handOn]) (by simp (maxDischargeDepth := 60) [Instr.touches, Part.nodeChange, Part.ending, Part.publication, Part.handOn]) h

theorem exec_brakeReleaseExpiry_via {s t : State} (h : exec .brakeReleaseExpiry s = .next t) :
    s.via (Instr.touches .brakeReleaseExpiry) t := by
  change execBrakeReleaseExpiry s = _ at h; unfold execBrakeReleaseExpiry at h
  exact taken_via (by simp [Instr.touches, Part.nodeChange, Part.ending, Part.publication, Part.handOn]) (by simp [Instr.touches, Part.nodeChange, Part.ending, Part.publication, Part.handOn]) (by simp (maxDischargeDepth := 60) [Instr.touches, Part.nodeChange, Part.ending, Part.publication, Part.handOn]) h

theorem exec_brakeSetExpiry_via {s t : State} (h : exec .brakeSetExpiry s = .next t) :
    s.via (Instr.touches .brakeSetExpiry) t := by
  change execBrakeSetExpiry s = _ at h; unfold execBrakeSetExpiry at h
  exact taken_via (by simp [Instr.touches, Part.nodeChange, Part.ending, Part.publication, Part.handOn]) (by simp [Instr.touches, Part.nodeChange, Part.ending, Part.publication, Part.handOn]) (by simp (maxDischargeDepth := 60) [Instr.touches, Part.nodeChange, Part.ending, Part.publication, Part.handOn]) h

theorem exec_slackTimerExpiry_via {s t : State} (h : exec .slackTimerExpiry s = .next t) :
    s.via (Instr.touches .slackTimerExpiry) t := by
  change execSlackTimerExpiry s = _ at h; unfold execSlackTimerExpiry at h
  exact taken_via (by simp [Instr.touches, Part.nodeChange, Part.ending, Part.publication, Part.handOn]) (by simp [Instr.touches, Part.nodeChange, Part.ending, Part.publication, Part.handOn]) (by simp (maxDischargeDepth := 60) [Instr.touches, Part.nodeChange, Part.ending, Part.publication, Part.handOn]) h

theorem exec_stallTimerExpiry_via {s t : State} (h : exec .stallTimerExpiry s = .next t) :
    s.via (Instr.touches .stallTimerExpiry) t := by
  change execStallTimerExpiry s = _ at h; unfold execStallTimerExpiry at h
  exact taken_via (by simp [Instr.touches, Part.nodeChange, Part.ending, Part.publication, Part.handOn]) (by simp [Instr.touches, Part.nodeChange, Part.ending, Part.publication, Part.handOn]) (by simp (maxDischargeDepth := 60) [Instr.touches, Part.nodeChange, Part.ending, Part.publication, Part.handOn]) h

theorem exec_periodicTimerExpiry_via {s t : State} (h : exec .periodicTimerExpiry s = .next t) :
    s.via (Instr.touches .periodicTimerExpiry) t := by
  change execPeriodicTimerExpiry s = _ at h; unfold execPeriodicTimerExpiry at h
  exact taken_via (by simp [Instr.touches, Part.nodeChange, Part.ending, Part.publication, Part.handOn]) (by simp [Instr.touches, Part.nodeChange, Part.ending, Part.publication, Part.handOn]) (by simp (maxDischargeDepth := 60) [Instr.touches, Part.nodeChange, Part.ending, Part.publication, Part.handOn]) h

theorem exec_publicationWaitExpiry_via {s t : State} (h : exec .publicationWaitExpiry s = .next t) :
    s.via (Instr.touches .publicationWaitExpiry) t := by
  change execPublicationWaitExpiry s = _ at h; unfold execPublicationWaitExpiry at h
  exact taken_via (by simp [Instr.touches, Part.nodeChange, Part.ending, Part.publication, Part.handOn]) (by simp [Instr.touches, Part.nodeChange, Part.ending, Part.publication, Part.handOn]) (by simp (maxDischargeDepth := 60) [Instr.touches, Part.nodeChange, Part.ending, Part.publication, Part.handOn]) h

theorem exec_parkEntryTimerExpiry_via {s t : State} (h : exec .parkEntryTimerExpiry s = .next t) :
    s.via (Instr.touches .parkEntryTimerExpiry) t := by
  change execParkEntryTimerExpiry s = _ at h; unfold execParkEntryTimerExpiry at h
  exact taken_via (by simp [Instr.touches, Part.nodeChange, Part.ending, Part.publication, Part.handOn]) (by simp [Instr.touches, Part.nodeChange, Part.ending, Part.publication, Part.handOn]) (by simp (maxDischargeDepth := 60) [Instr.touches, Part.nodeChange, Part.ending, Part.publication, Part.handOn]) h

theorem exec_wakeTimerExpiry_via {s t : State} (h : exec .wakeTimerExpiry s = .next t) :
    s.via (Instr.touches .wakeTimerExpiry) t := by
  change execWakeTimerExpiry s = _ at h; unfold execWakeTimerExpiry at h
  exact taken_via (by simp [Instr.touches, Part.nodeChange, Part.ending, Part.publication, Part.handOn]) (by simp [Instr.touches, Part.nodeChange, Part.ending, Part.publication, Part.handOn]) (by simp (maxDischargeDepth := 60) [Instr.touches, Part.nodeChange, Part.ending, Part.publication, Part.handOn]) h

theorem exec_ropeEvent_via {s t : State} {a} (h : exec (.ropeEvent a) s = .next t) :
    s.via (Instr.touches (.ropeEvent a)) t := by
  change execRopeEvent a s = _ at h; unfold execRopeEvent at h
  exact taken_via (by simp [Instr.touches, Part.nodeChange, Part.ending, Part.publication, Part.handOn]) (by simp [Instr.touches, Part.nodeChange, Part.ending, Part.publication, Part.handOn]) (by simp (maxDischargeDepth := 60) [Instr.touches, Part.nodeChange, Part.ending, Part.publication, Part.handOn]) h

theorem exec_ropeTensionEvent_via {s t : State} {a} (h : exec (.ropeTensionEvent a) s = .next t) :
    s.via (Instr.touches (.ropeTensionEvent a)) t := by
  change execRopeTensionEvent a s = _ at h; unfold execRopeTensionEvent at h
  exact taken_via (by simp [Instr.touches, Part.nodeChange, Part.ending, Part.publication, Part.handOn]) (by simp [Instr.touches, Part.nodeChange, Part.ending, Part.publication, Part.handOn]) (by simp (maxDischargeDepth := 60) [Instr.touches, Part.nodeChange, Part.ending, Part.publication, Part.handOn]) h

theorem exec_axisSpeedEvent_via {s t : State} {a} (h : exec (.axisSpeedEvent a) s = .next t) :
    s.via (Instr.touches (.axisSpeedEvent a)) t := by
  change execAxisSpeedEvent a s = _ at h; unfold execAxisSpeedEvent at h
  exact taken_via (by simp [Instr.touches, Part.nodeChange, Part.ending, Part.publication, Part.handOn]) (by simp [Instr.touches, Part.nodeChange, Part.ending, Part.publication, Part.handOn]) (by simp (maxDischargeDepth := 60) [Instr.touches, Part.nodeChange, Part.ending, Part.publication, Part.handOn]) h

theorem exec_strokeEvent_via {s t : State} {a} (h : exec (.strokeEvent a) s = .next t) :
    s.via (Instr.touches (.strokeEvent a)) t := by
  change execStrokeEvent a s = _ at h; unfold execStrokeEvent at h
  exact taken_via (by simp [Instr.touches, Part.nodeChange, Part.ending, Part.publication, Part.handOn]) (by simp [Instr.touches, Part.nodeChange, Part.ending, Part.publication, Part.handOn]) (by simp (maxDischargeDepth := 60) [Instr.touches, Part.nodeChange, Part.ending, Part.publication, Part.handOn]) h

theorem exec_crowdForceEvent_via {s t : State} {a} (h : exec (.crowdForceEvent a) s = .next t) :
    s.via (Instr.touches (.crowdForceEvent a)) t := by
  change execCrowdForceEvent a s = _ at h; unfold execCrowdForceEvent at h
  exact taken_via (by simp [Instr.touches, Part.nodeChange, Part.ending, Part.publication, Part.handOn]) (by simp [Instr.touches, Part.nodeChange, Part.ending, Part.publication, Part.handOn]) (by simp (maxDischargeDepth := 60) [Instr.touches, Part.nodeChange, Part.ending, Part.publication, Part.handOn]) h

theorem exec_angleEvent_via {s t : State} {a} (h : exec (.angleEvent a) s = .next t) :
    s.via (Instr.touches (.angleEvent a)) t := by
  change execAngleEvent a s = _ at h; unfold execAngleEvent at h
  exact taken_via (by simp [Instr.touches, Part.nodeChange, Part.ending, Part.publication, Part.handOn]) (by simp [Instr.touches, Part.nodeChange, Part.ending, Part.publication, Part.handOn]) (by simp (maxDischargeDepth := 60) [Instr.touches, Part.nodeChange, Part.ending, Part.publication, Part.handOn]) h

theorem exec_torqueEvent_via {s t : State} {a} (h : exec (.torqueEvent a) s = .next t) :
    s.via (Instr.touches (.torqueEvent a)) t := by
  change execTorqueEvent a s = _ at h; unfold execTorqueEvent at h
  exact taken_via (by simp [Instr.touches, Part.nodeChange, Part.ending, Part.publication, Part.handOn]) (by simp [Instr.touches, Part.nodeChange, Part.ending, Part.publication, Part.handOn]) (by simp (maxDischargeDepth := 60) [Instr.touches, Part.nodeChange, Part.ending, Part.publication, Part.handOn]) h

theorem exec_agingStep_via {s t : State} {a} (h : exec (.agingStep a) s = .next t) :
    s.via (Instr.touches (.agingStep a)) t := by
  change execAgingStep a s = _ at h; unfold execAgingStep at h
  exact taken_via (by simp [Instr.touches, Part.nodeChange, Part.ending, Part.publication, Part.handOn]) (by simp [Instr.touches, Part.nodeChange, Part.ending, Part.publication, Part.handOn]) (by simp (maxDischargeDepth := 60) [Instr.touches, Part.nodeChange, Part.ending, Part.publication, Part.handOn]) h

theorem exec_sendBoundExpiry_via {s t : State} {a} (h : exec (.sendBoundExpiry a) s = .next t) :
    s.via (Instr.touches (.sendBoundExpiry a)) t := by
  change execSendBoundExpiry a s = _ at h; unfold execSendBoundExpiry at h
  exact taken_via (by simp [Instr.touches, Part.nodeChange, Part.ending, Part.publication, Part.handOn]) (by simp [Instr.touches, Part.nodeChange, Part.ending, Part.publication, Part.handOn]) (by simp (maxDischargeDepth := 60) [Instr.touches, Part.nodeChange, Part.ending, Part.publication, Part.handOn]) h

theorem exec_subRequestSlowWindowEnd_via {s t : State} {a} (h : exec (.subRequestSlowWindowEnd a) s = .next t) :
    s.via (Instr.touches (.subRequestSlowWindowEnd a)) t := by
  change execSubRequestSlowWindowEnd a s = _ at h; unfold execSubRequestSlowWindowEnd at h
  exact taken_via (by simp [Instr.touches, Part.nodeChange, Part.ending, Part.publication, Part.handOn]) (by simp [Instr.touches, Part.nodeChange, Part.ending, Part.publication, Part.handOn]) (by simp (maxDischargeDepth := 60) [Instr.touches, Part.nodeChange, Part.ending, Part.publication, Part.handOn]) h

theorem exec_startDeadlineExpiry_via {s t : State} {a} (h : exec (.startDeadlineExpiry a) s = .next t) :
    s.via (Instr.touches (.startDeadlineExpiry a)) t := by
  change execStartDeadlineExpiry a s = _ at h; unfold execStartDeadlineExpiry at h
  exact taken_via (by simp [Instr.touches, Part.nodeChange, Part.ending, Part.publication, Part.handOn]) (by simp [Instr.touches, Part.nodeChange, Part.ending, Part.publication, Part.handOn]) (by simp (maxDischargeDepth := 60) [Instr.touches, Part.nodeChange, Part.ending, Part.publication, Part.handOn]) h

theorem exec_replyDeadlineExpiry_via {s t : State} {a} (h : exec (.replyDeadlineExpiry a) s = .next t) :
    s.via (Instr.touches (.replyDeadlineExpiry a)) t := by
  change execReplyDeadlineExpiry a s = _ at h; unfold execReplyDeadlineExpiry at h
  exact taken_via (by simp [Instr.touches, Part.nodeChange, Part.ending, Part.publication, Part.handOn]) (by simp [Instr.touches, Part.nodeChange, Part.ending, Part.publication, Part.handOn]) (by simp (maxDischargeDepth := 60) [Instr.touches, Part.nodeChange, Part.ending, Part.publication, Part.handOn]) h

theorem exec_fastWindowEnd_via {s t : State} {a} (h : exec (.fastWindowEnd a) s = .next t) :
    s.via (Instr.touches (.fastWindowEnd a)) t := by
  change execFastWindowEnd a s = _ at h; unfold execFastWindowEnd at h
  exact taken_via (by simp [Instr.touches, Part.nodeChange, Part.ending, Part.publication, Part.handOn]) (by simp [Instr.touches, Part.nodeChange, Part.ending, Part.publication, Part.handOn]) (by simp (maxDischargeDepth := 60) [Instr.touches, Part.nodeChange, Part.ending, Part.publication, Part.handOn]) h

theorem exec_defaultSlowWindowEnd_via {s t : State} {a} (h : exec (.defaultSlowWindowEnd a) s = .next t) :
    s.via (Instr.touches (.defaultSlowWindowEnd a)) t := by
  change execDefaultSlowWindowEnd a s = _ at h; unfold execDefaultSlowWindowEnd at h
  exact taken_via (by simp [Instr.touches, Part.nodeChange, Part.ending, Part.publication, Part.handOn]) (by simp [Instr.touches, Part.nodeChange, Part.ending, Part.publication, Part.handOn]) (by simp (maxDischargeDepth := 60) [Instr.touches, Part.nodeChange, Part.ending, Part.publication, Part.handOn]) h

theorem exec_transmitStart_via {s t : State} {a} (h : exec (.transmitStart a) s = .next t) :
    s.via (Instr.touches (.transmitStart a)) t := by
  change execTransmitStart a s = _ at h; unfold execTransmitStart at h
  exact taken_via (by simp [Instr.touches, Part.nodeChange, Part.ending, Part.publication, Part.handOn]) (by simp [Instr.touches, Part.nodeChange, Part.ending, Part.publication, Part.handOn]) (by simp (maxDischargeDepth := 60) [Instr.touches, Part.nodeChange, Part.ending, Part.publication, Part.handOn]) h

theorem exec_characterError_via {s t : State} {a b c} (h : exec (.characterError a b c) s = .next t) :
    s.via (Instr.touches (.characterError a b c)) t ∨ s.isRequestedReset t := by
  change execCharacterError a b c s = _ at h; unfold execCharacterError at h
  exact takenOnLine_via (by simp [Instr.touches, Part.nodeChange, Part.ending, Part.publication, Part.handOn]) (by simp [Instr.touches, Part.nodeChange, Part.ending, Part.publication, Part.handOn]) (by simp [Instr.touches, Part.nodeChange, Part.ending, Part.publication, Part.handOn]) (by simp [Instr.touches, Part.nodeChange, Part.ending, Part.publication, Part.handOn]) (by simp (maxDischargeDepth := 60) [Instr.touches, Part.nodeChange, Part.ending, Part.publication, Part.handOn]) h

theorem exec_truncated_via {s t : State} {a} (h : exec (.truncated a) s = .next t) :
    s.via (Instr.touches (.truncated a)) t ∨ s.isRequestedReset t := by
  change execTruncated a s = _ at h; unfold execTruncated at h
  exact takenOnLine_via (by simp [Instr.touches, Part.nodeChange, Part.ending, Part.publication, Part.handOn]) (by simp [Instr.touches, Part.nodeChange, Part.ending, Part.publication, Part.handOn]) (by simp [Instr.touches, Part.nodeChange, Part.ending, Part.publication, Part.handOn]) (by simp [Instr.touches, Part.nodeChange, Part.ending, Part.publication, Part.handOn]) (by simp (maxDischargeDepth := 60) [Instr.touches, Part.nodeChange, Part.ending, Part.publication, Part.handOn]) h

theorem exec_frameComplete_via {s t : State} {a} (h : exec (.frameComplete a) s = .next t) :
    s.via (Instr.touches (.frameComplete a)) t ∨ s.isRequestedReset t := by
  change execFrameComplete a s = _ at h; unfold execFrameComplete at h
  exact takenOnLine_via (by simp [Instr.touches, Part.nodeChange, Part.ending, Part.publication, Part.handOn]) (by simp [Instr.touches, Part.nodeChange, Part.ending, Part.publication, Part.handOn]) (by simp [Instr.touches, Part.nodeChange, Part.ending, Part.publication, Part.handOn]) (by simp [Instr.touches, Part.nodeChange, Part.ending, Part.publication, Part.handOn]) (by simp (maxDischargeDepth := 60) [Instr.touches, Part.nodeChange, Part.ending, Part.publication, Part.handOn]) h

theorem exec_characterReceived_via {s t : State} {a} (h : exec (.characterReceived a) s = .next t) :
    s.via (Instr.touches (.characterReceived a)) t ∨ s.isRequestedReset t := by
  change execCharacterReceived a s = _ at h; unfold execCharacterReceived at h
  exact takenOnLine_via (by simp [Instr.touches, Part.nodeChange, Part.ending, Part.publication, Part.handOn]) (by simp [Instr.touches, Part.nodeChange, Part.ending, Part.publication, Part.handOn]) (by simp [Instr.touches, Part.nodeChange, Part.ending, Part.publication, Part.handOn]) (by simp [Instr.touches, Part.nodeChange, Part.ending, Part.publication, Part.handOn]) (by simp (maxDischargeDepth := 60) [Instr.touches, Part.nodeChange, Part.ending, Part.publication, Part.handOn]) h

theorem exec_noisePulse_via {s t : State} (h : exec .noisePulse s = .next t) :
    s.via (Instr.touches .noisePulse) t := by
  change execNoisePulse s = _ at h; unfold execNoisePulse at h
  refine taken_via (by simp [Instr.touches, Part.nodeChange, Part.ending, Part.publication, Part.handOn]) (by simp [Instr.touches, Part.nodeChange, Part.ending, Part.publication, Part.handOn]) ?_ h
  simp only [Instr.touches, Part.nodeChange, Part.ending, Part.publication, Part.handOn]
  refine State.via_withLine' (State.via_refl _ _) (by simp) (by simp) _ ?_
  exact fun hb => hb

theorem exec_skipQuietEnd_via {s t : State} {a} (h : exec (.skipQuietEnd a) s = .next t) :
    s.via (Instr.touches (.skipQuietEnd a)) t := by
  change execSkipQuietEnd a s = _ at h; unfold execSkipQuietEnd at h
  refine taken_via (by simp [Instr.touches, Part.nodeChange, Part.ending, Part.publication, Part.handOn]) (by simp [Instr.touches, Part.nodeChange, Part.ending, Part.publication, Part.handOn]) ?_ h
  simp only [Instr.touches, Part.nodeChange, Part.ending, Part.publication, Part.handOn]
  refine State.via_withLine' (State.via_quietFor (State.via_refl _ _) (by simp) (by simp) a) (by simp) (by simp) _ ?_
  exact fun hb => hb

theorem exec_arbitrationLost_via {s t : State} (h : exec .arbitrationLost s = .next t) :
    s.via (Instr.touches .arbitrationLost) t ∨ s.isRequestedReset t := by
  change execArbitrationLost s = _ at h; unfold execArbitrationLost at h
  refine takenOnLine_via (by simp [Instr.touches, Part.nodeChange, Part.ending, Part.publication, Part.handOn]) (by simp [Instr.touches, Part.nodeChange, Part.ending, Part.publication, Part.handOn]) (by simp [Instr.touches, Part.nodeChange, Part.ending, Part.publication, Part.handOn]) (by simp [Instr.touches, Part.nodeChange, Part.ending, Part.publication, Part.handOn]) ?_ h
  simp only [Instr.touches, Part.nodeChange, Part.ending, Part.publication, Part.handOn]
  refine State.via_withLine' (State.via_loseFrame (State.via_refl _ _) (by simp) (by simp) (by simp) (by simp) (by simp)) (by simp) (by simp) _ ?_
  exact fun hb => hb

theorem exec_readBackFailure_via {s t : State} (h : exec .readBackFailure s = .next t) :
    s.via (Instr.touches .readBackFailure) t ∨ s.isRequestedReset t := by
  change execReadBackFailure s = _ at h; unfold execReadBackFailure at h
  exact takenOnLine_via (by simp [Instr.touches, Part.nodeChange, Part.ending, Part.publication, Part.handOn]) (by simp [Instr.touches, Part.nodeChange, Part.ending, Part.publication, Part.handOn]) (by simp [Instr.touches, Part.nodeChange, Part.ending, Part.publication, Part.handOn]) (by simp [Instr.touches, Part.nodeChange, Part.ending, Part.publication, Part.handOn]) (by simp (maxDischargeDepth := 60) [Instr.touches, Part.nodeChange, Part.ending, Part.publication, Part.handOn]) h

theorem exec_txComplete_via {s t : State} (h : exec .txComplete s = .next t) :
    s.via (Instr.touches .txComplete) t ∨ s.isRequestedReset t := by
  change execTxComplete s = _ at h; unfold execTxComplete at h
  exact takenOnLine_via (by simp [Instr.touches, Part.nodeChange, Part.ending, Part.publication, Part.handOn]) (by simp [Instr.touches, Part.nodeChange, Part.ending, Part.publication, Part.handOn]) (by simp [Instr.touches, Part.nodeChange, Part.ending, Part.publication, Part.handOn]) (by simp [Instr.touches, Part.nodeChange, Part.ending, Part.publication, Part.handOn]) (by simp (maxDischargeDepth := 60) [Instr.touches, Part.nodeChange, Part.ending, Part.publication, Part.handOn]) h

theorem exec_unknownKindDiscard_via {s t : State} (h : exec .unknownKindDiscard s = .next t) :
    s.via (Instr.touches .unknownKindDiscard) t := by
  change execUnknownKindDiscard s = _ at h; unfold execUnknownKindDiscard at h
  exact handled_via (by simp [Instr.touches, Part.nodeChange, Part.ending, Part.publication, Part.handOn]) (by simp [Instr.touches, Part.nodeChange, Part.ending, Part.publication, Part.handOn]) (by simp [Instr.touches, Part.nodeChange, Part.ending, Part.publication, Part.handOn]) (fun f u hu => hu) h

theorem exec_publishHandled_via {s t : State} (h : exec .publishHandled s = .next t) :
    s.via (Instr.touches .publishHandled) t := by
  change execPublishHandled s = _ at h; unfold execPublishHandled at h
  exact handled_via (by simp [Instr.touches, Part.nodeChange, Part.ending, Part.publication, Part.handOn]) (by simp [Instr.touches, Part.nodeChange, Part.ending, Part.publication, Part.handOn]) (by simp [Instr.touches, Part.nodeChange, Part.ending, Part.publication, Part.handOn]) (fun f u hu => by simp [Instr.touches, Part.nodeChange, Part.ending, Part.publication, Part.handOn] at hu ⊢; simp (maxDischargeDepth := 60) [hu]) h

theorem exec_claimHandled_via {s t : State} (h : exec .claimHandled s = .next t) :
    s.via (Instr.touches .claimHandled) t := by
  change execClaimHandled s = _ at h; unfold execClaimHandled at h
  exact handled_via (by simp [Instr.touches, Part.nodeChange, Part.ending, Part.publication, Part.handOn]) (by simp [Instr.touches, Part.nodeChange, Part.ending, Part.publication, Part.handOn]) (by simp [Instr.touches, Part.nodeChange, Part.ending, Part.publication, Part.handOn]) (fun f u hu => by simp [Instr.touches, Part.nodeChange, Part.ending, Part.publication, Part.handOn] at hu ⊢; simp (maxDischargeDepth := 60) [hu]) h

theorem exec_replyHandled_via {s t : State} (h : exec .replyHandled s = .next t) :
    s.via (Instr.touches .replyHandled) t := by
  change execReplyHandled s = _ at h; unfold execReplyHandled at h
  exact handled_via (by simp [Instr.touches, Part.nodeChange, Part.ending, Part.publication, Part.handOn]) (by simp [Instr.touches, Part.nodeChange, Part.ending, Part.publication, Part.handOn]) (by simp [Instr.touches, Part.nodeChange, Part.ending, Part.publication, Part.handOn]) (fun f u hu => by simp [Instr.touches, Part.nodeChange, Part.ending, Part.publication, Part.handOn] at hu ⊢; simp (maxDischargeDepth := 60) [hu]) h

theorem exec_stopHandled_via {s t : State} (h : exec .stopHandled s = .next t) :
    s.via (Instr.touches .stopHandled) t := by
  change execStopHandled s = _ at h; unfold execStopHandled at h
  exact handled_via (by simp [Instr.touches, Part.nodeChange, Part.ending, Part.publication, Part.handOn]) (by simp [Instr.touches, Part.nodeChange, Part.ending, Part.publication, Part.handOn]) (by simp [Instr.touches, Part.nodeChange, Part.ending, Part.publication, Part.handOn]) (fun f u hu => by simp [Instr.touches, Part.nodeChange, Part.ending, Part.publication, Part.handOn] at hu ⊢; simp (maxDischargeDepth := 60) [hu]) h

theorem exec_setupHandled_via {s t : State} (h : exec .setupHandled s = .next t) :
    s.via (Instr.touches .setupHandled) t := by
  change execSetupHandled s = _ at h; unfold execSetupHandled at h
  exact handled_via (by simp [Instr.touches, Part.nodeChange, Part.ending, Part.publication, Part.handOn]) (by simp [Instr.touches, Part.nodeChange, Part.ending, Part.publication, Part.handOn]) (by simp [Instr.touches, Part.nodeChange, Part.ending, Part.publication, Part.handOn]) (fun f u hu => by simp [Instr.touches, Part.nodeChange, Part.ending, Part.publication, Part.handOn] at hu ⊢; simp (maxDischargeDepth := 60) [hu]) h

theorem exec_start_via {s t : State} (h : exec .start s = .next t) :
    s.via (Instr.touches .start) t := by
  change execStart s = _ at h; unfold execStart at h
  exact handled_via (by simp [Instr.touches, Part.nodeChange, Part.ending, Part.publication, Part.handOn]) (by simp [Instr.touches, Part.nodeChange, Part.ending, Part.publication, Part.handOn]) (by simp [Instr.touches, Part.nodeChange, Part.ending, Part.publication, Part.handOn]) (fun f u hu => by simp [Instr.touches, Part.nodeChange, Part.ending, Part.publication, Part.handOn] at hu ⊢; simp (maxDischargeDepth := 60) [hu]) h

theorem exec_halt_via {s t : State} (h : exec .halt s = .next t) :
    s.via (Instr.touches .halt) t := by
  change execHalt s = _ at h; unfold execHalt at h
  exact handled_via (by simp [Instr.touches, Part.nodeChange, Part.ending, Part.publication, Part.handOn]) (by simp [Instr.touches, Part.nodeChange, Part.ending, Part.publication, Part.handOn]) (by simp [Instr.touches, Part.nodeChange, Part.ending, Part.publication, Part.handOn]) (fun f u hu => by simp [Instr.touches, Part.nodeChange, Part.ending, Part.publication, Part.handOn] at hu ⊢; simp (maxDischargeDepth := 60) [hu]) h

theorem exec_undefinedFunction_via {s t : State} (h : exec .undefinedFunction s = .next t) :
    s.via (Instr.touches .undefinedFunction) t := by
  change execUndefinedFunction s = _ at h; unfold execUndefinedFunction at h
  exact handled_via (by simp [Instr.touches, Part.nodeChange, Part.ending, Part.publication, Part.handOn]) (by simp [Instr.touches, Part.nodeChange, Part.ending, Part.publication, Part.handOn]) (by simp [Instr.touches, Part.nodeChange, Part.ending, Part.publication, Part.handOn]) (fun f u hu => by simp [Instr.touches, Part.nodeChange, Part.ending, Part.publication, Part.handOn] at hu ⊢; simp (maxDischargeDepth := 60) [hu]) h

theorem exec_unownedRequest_via {s t : State} (h : exec .unownedRequest s = .next t) :
    s.via (Instr.touches .unownedRequest) t := by
  change execUnownedRequest s = _ at h; unfold execUnownedRequest at h
  exact handled_via (by simp [Instr.touches, Part.nodeChange, Part.ending, Part.publication, Part.handOn]) (by simp [Instr.touches, Part.nodeChange, Part.ending, Part.publication, Part.handOn]) (by simp [Instr.touches, Part.nodeChange, Part.ending, Part.publication, Part.handOn]) (fun f u hu => by simp [Instr.touches, Part.nodeChange, Part.ending, Part.publication, Part.handOn] at hu ⊢; simp (maxDischargeDepth := 60) [hu]) h

theorem exec_park_via {s t : State} (h : exec .park s = .next t) :
    s.via (Instr.touches .park) t := by
  change execPark s = _ at h; unfold execPark at h
  exact request_via (by simp [Instr.touches, Part.nodeChange, Part.ending, Part.publication, Part.handOn]) (by simp [Instr.touches, Part.nodeChange, Part.ending, Part.publication, Part.handOn]) (by simp [Instr.touches, Part.nodeChange, Part.ending, Part.publication, Part.handOn]) (by simp [Instr.touches, Part.nodeChange, Part.ending, Part.publication, Part.handOn]) (by simp [Instr.touches, Part.nodeChange, Part.ending, Part.publication, Part.handOn]) (by simp [Instr.touches, Part.nodeChange, Part.ending, Part.publication, Part.handOn]) (fun e u hu => by simp [Instr.touches, Part.nodeChange, Part.ending, Part.publication, Part.handOn] at hu ⊢; simp (maxDischargeDepth := 60) [hu]) h

theorem exec_clearFault_via {s t : State} (h : exec .clearFault s = .next t) :
    s.via (Instr.touches .clearFault) t := by
  change execClearFault s = _ at h; unfold execClearFault at h
  exact request_via (by simp [Instr.touches, Part.nodeChange, Part.ending, Part.publication, Part.handOn]) (by simp [Instr.touches, Part.nodeChange, Part.ending, Part.publication, Part.handOn]) (by simp [Instr.touches, Part.nodeChange, Part.ending, Part.publication, Part.handOn]) (by simp [Instr.touches, Part.nodeChange, Part.ending, Part.publication, Part.handOn]) (by simp [Instr.touches, Part.nodeChange, Part.ending, Part.publication, Part.handOn]) (by simp [Instr.touches, Part.nodeChange, Part.ending, Part.publication, Part.handOn]) (fun e u hu => by simp [Instr.touches, Part.nodeChange, Part.ending, Part.publication, Part.handOn] at hu ⊢; simp (maxDischargeDepth := 60) [hu]) h

theorem exec_queryPeer_via {s t : State} (h : exec .queryPeer s = .next t) :
    s.via (Instr.touches .queryPeer) t := by
  change execQueryPeer s = _ at h; unfold execQueryPeer at h
  exact request_via (by simp [Instr.touches, Part.nodeChange, Part.ending, Part.publication, Part.handOn]) (by simp [Instr.touches, Part.nodeChange, Part.ending, Part.publication, Part.handOn]) (by simp [Instr.touches, Part.nodeChange, Part.ending, Part.publication, Part.handOn]) (by simp [Instr.touches, Part.nodeChange, Part.ending, Part.publication, Part.handOn]) (by simp [Instr.touches, Part.nodeChange, Part.ending, Part.publication, Part.handOn]) (by simp [Instr.touches, Part.nodeChange, Part.ending, Part.publication, Part.handOn]) (fun e u hu => by simp [Instr.touches, Part.nodeChange, Part.ending, Part.publication, Part.handOn] at hu ⊢; simp (maxDischargeDepth := 60) [hu]) h

theorem exec_queryNode_via {s t : State} (h : exec .queryNode s = .next t) :
    s.via (Instr.touches .queryNode) t := by
  change execQueryNode s = _ at h; unfold execQueryNode at h
  exact request_via (by simp [Instr.touches, Part.nodeChange, Part.ending, Part.publication, Part.handOn]) (by simp [Instr.touches, Part.nodeChange, Part.ending, Part.publication, Part.handOn]) (by simp [Instr.touches, Part.nodeChange, Part.ending, Part.publication, Part.handOn]) (by simp [Instr.touches, Part.nodeChange, Part.ending, Part.publication, Part.handOn]) (by simp [Instr.touches, Part.nodeChange, Part.ending, Part.publication, Part.handOn]) (by simp [Instr.touches, Part.nodeChange, Part.ending, Part.publication, Part.handOn]) (fun e u hu => by simp [Instr.touches, Part.nodeChange, Part.ending, Part.publication, Part.handOn] at hu ⊢; simp (maxDischargeDepth := 60) [hu]) h

theorem exec_winchMove_via {s t : State} (h : exec .winchMove s = .next t) :
    s.via (Instr.touches .winchMove) t := by
  change execWinchMove s = _ at h; unfold execWinchMove at h
  exact request_via (by simp [Instr.touches, Part.nodeChange, Part.ending, Part.publication, Part.handOn]) (by simp [Instr.touches, Part.nodeChange, Part.ending, Part.publication, Part.handOn]) (by simp [Instr.touches, Part.nodeChange, Part.ending, Part.publication, Part.handOn]) (by simp [Instr.touches, Part.nodeChange, Part.ending, Part.publication, Part.handOn]) (by simp [Instr.touches, Part.nodeChange, Part.ending, Part.publication, Part.handOn]) (by simp [Instr.touches, Part.nodeChange, Part.ending, Part.publication, Part.handOn]) (fun e u hu => by simp [Instr.touches, Part.nodeChange, Part.ending, Part.publication, Part.handOn] at hu ⊢; simp (maxDischargeDepth := 60) [hu]) h

theorem exec_lower_via {s t : State} (h : exec .lower s = .next t) :
    s.via (Instr.touches .lower) t := by
  change execLower s = _ at h; unfold execLower at h
  exact request_via (by simp [Instr.touches, Part.nodeChange, Part.ending, Part.publication, Part.handOn]) (by simp [Instr.touches, Part.nodeChange, Part.ending, Part.publication, Part.handOn]) (by simp [Instr.touches, Part.nodeChange, Part.ending, Part.publication, Part.handOn]) (by simp [Instr.touches, Part.nodeChange, Part.ending, Part.publication, Part.handOn]) (by simp [Instr.touches, Part.nodeChange, Part.ending, Part.publication, Part.handOn]) (by simp [Instr.touches, Part.nodeChange, Part.ending, Part.publication, Part.handOn]) (fun e u hu => by simp [Instr.touches, Part.nodeChange, Part.ending, Part.publication, Part.handOn] at hu ⊢; simp (maxDischargeDepth := 60) [hu]) h

theorem exec_lift_via {s t : State} (h : exec .lift s = .next t) :
    s.via (Instr.touches .lift) t := by
  change execLift s = _ at h; unfold execLift at h
  exact request_via (by simp [Instr.touches, Part.nodeChange, Part.ending, Part.publication, Part.handOn]) (by simp [Instr.touches, Part.nodeChange, Part.ending, Part.publication, Part.handOn]) (by simp [Instr.touches, Part.nodeChange, Part.ending, Part.publication, Part.handOn]) (by simp [Instr.touches, Part.nodeChange, Part.ending, Part.publication, Part.handOn]) (by simp [Instr.touches, Part.nodeChange, Part.ending, Part.publication, Part.handOn]) (by simp [Instr.touches, Part.nodeChange, Part.ending, Part.publication, Part.handOn]) (fun e u hu => by simp [Instr.touches, Part.nodeChange, Part.ending, Part.publication, Part.handOn] at hu ⊢; simp (maxDischargeDepth := 60) [hu]) h

theorem exec_extend_via {s t : State} (h : exec .extend s = .next t) :
    s.via (Instr.touches .extend) t := by
  change execExtend s = _ at h; unfold execExtend at h
  exact request_via (by simp [Instr.touches, Part.nodeChange, Part.ending, Part.publication, Part.handOn]) (by simp [Instr.touches, Part.nodeChange, Part.ending, Part.publication, Part.handOn]) (by simp [Instr.touches, Part.nodeChange, Part.ending, Part.publication, Part.handOn]) (by simp [Instr.touches, Part.nodeChange, Part.ending, Part.publication, Part.handOn]) (by simp [Instr.touches, Part.nodeChange, Part.ending, Part.publication, Part.handOn]) (by simp [Instr.touches, Part.nodeChange, Part.ending, Part.publication, Part.handOn]) (fun e u hu => by simp [Instr.touches, Part.nodeChange, Part.ending, Part.publication, Part.handOn] at hu ⊢; simp (maxDischargeDepth := 60) [hu]) h

theorem exec_setDatum_via {s t : State} (h : exec .setDatum s = .next t) :
    s.via (Instr.touches .setDatum) t := by
  change execSetDatum s = _ at h; unfold execSetDatum at h
  exact request_via (by simp [Instr.touches, Part.nodeChange, Part.ending, Part.publication, Part.handOn]) (by simp [Instr.touches, Part.nodeChange, Part.ending, Part.publication, Part.handOn]) (by simp [Instr.touches, Part.nodeChange, Part.ending, Part.publication, Part.handOn]) (by simp [Instr.touches, Part.nodeChange, Part.ending, Part.publication, Part.handOn]) (by simp [Instr.touches, Part.nodeChange, Part.ending, Part.publication, Part.handOn]) (by simp [Instr.touches, Part.nodeChange, Part.ending, Part.publication, Part.handOn]) (fun e u hu => by simp [Instr.touches, Part.nodeChange, Part.ending, Part.publication, Part.handOn] at hu ⊢; simp (maxDischargeDepth := 60) [hu]) h

theorem exec_assertPicture_via {s t : State} (h : exec .assertPicture s = .next t) :
    s.via (Instr.touches .assertPicture) t := by
  change execAssertPicture s = _ at h; unfold execAssertPicture at h
  exact request_via (by simp [Instr.touches, Part.nodeChange, Part.ending, Part.publication, Part.handOn]) (by simp [Instr.touches, Part.nodeChange, Part.ending, Part.publication, Part.handOn]) (by simp [Instr.touches, Part.nodeChange, Part.ending, Part.publication, Part.handOn]) (by simp [Instr.touches, Part.nodeChange, Part.ending, Part.publication, Part.handOn]) (by simp [Instr.touches, Part.nodeChange, Part.ending, Part.publication, Part.handOn]) (by simp [Instr.touches, Part.nodeChange, Part.ending, Part.publication, Part.handOn]) (fun e u hu => by simp [Instr.touches, Part.nodeChange, Part.ending, Part.publication, Part.handOn] at hu ⊢; simp (maxDischargeDepth := 60) [hu]) h

theorem exec_queryKelly_via {s t : State} (h : exec .queryKelly s = .next t) :
    s.via (Instr.touches .queryKelly) t := by
  change execQueryKelly s = _ at h; unfold execQueryKelly at h
  exact request_via (by simp [Instr.touches, Part.nodeChange, Part.ending, Part.publication, Part.handOn]) (by simp [Instr.touches, Part.nodeChange, Part.ending, Part.publication, Part.handOn]) (by simp [Instr.touches, Part.nodeChange, Part.ending, Part.publication, Part.handOn]) (by simp [Instr.touches, Part.nodeChange, Part.ending, Part.publication, Part.handOn]) (by simp [Instr.touches, Part.nodeChange, Part.ending, Part.publication, Part.handOn]) (by simp [Instr.touches, Part.nodeChange, Part.ending, Part.publication, Part.handOn]) (fun e u hu => by simp [Instr.touches, Part.nodeChange, Part.ending, Part.publication, Part.handOn] at hu ⊢; simp (maxDischargeDepth := 60) [hu]) h

theorem exec_crowdMove_via {s t : State} (h : exec .crowdMove s = .next t) :
    s.via (Instr.touches .crowdMove) t := by
  change execCrowdMove s = _ at h; unfold execCrowdMove at h
  exact request_via (by simp [Instr.touches, Part.nodeChange, Part.ending, Part.publication, Part.handOn]) (by simp [Instr.touches, Part.nodeChange, Part.ending, Part.publication, Part.handOn]) (by simp [Instr.touches, Part.nodeChange, Part.ending, Part.publication, Part.handOn]) (by simp [Instr.touches, Part.nodeChange, Part.ending, Part.publication, Part.handOn]) (by simp [Instr.touches, Part.nodeChange, Part.ending, Part.publication, Part.handOn]) (by simp [Instr.touches, Part.nodeChange, Part.ending, Part.publication, Part.handOn]) (fun e u hu => by simp [Instr.touches, Part.nodeChange, Part.ending, Part.publication, Part.handOn] at hu ⊢; simp (maxDischargeDepth := 60) [hu]) h

theorem exec_queryCrowd_via {s t : State} (h : exec .queryCrowd s = .next t) :
    s.via (Instr.touches .queryCrowd) t := by
  change execQueryCrowd s = _ at h; unfold execQueryCrowd at h
  exact request_via (by simp [Instr.touches, Part.nodeChange, Part.ending, Part.publication, Part.handOn]) (by simp [Instr.touches, Part.nodeChange, Part.ending, Part.publication, Part.handOn]) (by simp [Instr.touches, Part.nodeChange, Part.ending, Part.publication, Part.handOn]) (by simp [Instr.touches, Part.nodeChange, Part.ending, Part.publication, Part.handOn]) (by simp [Instr.touches, Part.nodeChange, Part.ending, Part.publication, Part.handOn]) (by simp [Instr.touches, Part.nodeChange, Part.ending, Part.publication, Part.handOn]) (fun e u hu => by simp [Instr.touches, Part.nodeChange, Part.ending, Part.publication, Part.handOn] at hu ⊢; simp (maxDischargeDepth := 60) [hu]) h

theorem exec_rotaryMove_via {s t : State} (h : exec .rotaryMove s = .next t) :
    s.via (Instr.touches .rotaryMove) t := by
  change execRotaryMove s = _ at h; unfold execRotaryMove at h
  exact request_via (by simp [Instr.touches, Part.nodeChange, Part.ending, Part.publication, Part.handOn]) (by simp [Instr.touches, Part.nodeChange, Part.ending, Part.publication, Part.handOn]) (by simp [Instr.touches, Part.nodeChange, Part.ending, Part.publication, Part.handOn]) (by simp [Instr.touches, Part.nodeChange, Part.ending, Part.publication, Part.handOn]) (by simp [Instr.touches, Part.nodeChange, Part.ending, Part.publication, Part.handOn]) (by simp [Instr.touches, Part.nodeChange, Part.ending, Part.publication, Part.handOn]) (fun e u hu => by simp [Instr.touches, Part.nodeChange, Part.ending, Part.publication, Part.handOn] at hu ⊢; simp (maxDischargeDepth := 60) [hu]) h

theorem exec_lock_via {s t : State} (h : exec .lock s = .next t) :
    s.via (Instr.touches .lock) t := by
  change execLock s = _ at h; unfold execLock at h
  exact request_via (by simp [Instr.touches, Part.nodeChange, Part.ending, Part.publication, Part.handOn]) (by simp [Instr.touches, Part.nodeChange, Part.ending, Part.publication, Part.handOn]) (by simp [Instr.touches, Part.nodeChange, Part.ending, Part.publication, Part.handOn]) (by simp [Instr.touches, Part.nodeChange, Part.ending, Part.publication, Part.handOn]) (by simp [Instr.touches, Part.nodeChange, Part.ending, Part.publication, Part.handOn]) (by simp [Instr.touches, Part.nodeChange, Part.ending, Part.publication, Part.handOn]) (fun e u hu => by simp [Instr.touches, Part.nodeChange, Part.ending, Part.publication, Part.handOn] at hu ⊢; simp (maxDischargeDepth := 60) [hu]) h

theorem exec_release_via {s t : State} (h : exec .release s = .next t) :
    s.via (Instr.touches .release) t := by
  change execRelease s = _ at h; unfold execRelease at h
  exact request_via (by simp [Instr.touches, Part.nodeChange, Part.ending, Part.publication, Part.handOn]) (by simp [Instr.touches, Part.nodeChange, Part.ending, Part.publication, Part.handOn]) (by simp [Instr.touches, Part.nodeChange, Part.ending, Part.publication, Part.handOn]) (by simp [Instr.touches, Part.nodeChange, Part.ending, Part.publication, Part.handOn]) (by simp [Instr.touches, Part.nodeChange, Part.ending, Part.publication, Part.handOn]) (by simp [Instr.touches, Part.nodeChange, Part.ending, Part.publication, Part.handOn]) (fun e u hu => by simp [Instr.touches, Part.nodeChange, Part.ending, Part.publication, Part.handOn] at hu ⊢; simp (maxDischargeDepth := 60) [hu]) h

theorem exec_bore_via {s t : State} (h : exec .bore s = .next t) :
    s.via (Instr.touches .bore) t := by
  change execBore s = _ at h; unfold execBore at h
  exact request_via (by simp [Instr.touches, Part.nodeChange, Part.ending, Part.publication, Part.handOn]) (by simp [Instr.touches, Part.nodeChange, Part.ending, Part.publication, Part.handOn]) (by simp [Instr.touches, Part.nodeChange, Part.ending, Part.publication, Part.handOn]) (by simp [Instr.touches, Part.nodeChange, Part.ending, Part.publication, Part.handOn]) (by simp [Instr.touches, Part.nodeChange, Part.ending, Part.publication, Part.handOn]) (by simp [Instr.touches, Part.nodeChange, Part.ending, Part.publication, Part.handOn]) (fun e u hu => by simp [Instr.touches, Part.nodeChange, Part.ending, Part.publication, Part.handOn] at hu ⊢; simp (maxDischargeDepth := 60) [hu]) h

theorem exec_boreStop_via {s t : State} (h : exec .boreStop s = .next t) :
    s.via (Instr.touches .boreStop) t := by
  change execBoreStop s = _ at h; unfold execBoreStop at h
  exact request_via (by simp [Instr.touches, Part.nodeChange, Part.ending, Part.publication, Part.handOn]) (by simp [Instr.touches, Part.nodeChange, Part.ending, Part.publication, Part.handOn]) (by simp [Instr.touches, Part.nodeChange, Part.ending, Part.publication, Part.handOn]) (by simp [Instr.touches, Part.nodeChange, Part.ending, Part.publication, Part.handOn]) (by simp [Instr.touches, Part.nodeChange, Part.ending, Part.publication, Part.handOn]) (by simp [Instr.touches, Part.nodeChange, Part.ending, Part.publication, Part.handOn]) (fun e u hu => by simp [Instr.touches, Part.nodeChange, Part.ending, Part.publication, Part.handOn] at hu ⊢; simp (maxDischargeDepth := 60) [hu]) h

theorem exec_spinOff_via {s t : State} (h : exec .spinOff s = .next t) :
    s.via (Instr.touches .spinOff) t := by
  change execSpinOff s = _ at h; unfold execSpinOff at h
  exact request_via (by simp [Instr.touches, Part.nodeChange, Part.ending, Part.publication, Part.handOn]) (by simp [Instr.touches, Part.nodeChange, Part.ending, Part.publication, Part.handOn]) (by simp [Instr.touches, Part.nodeChange, Part.ending, Part.publication, Part.handOn]) (by simp [Instr.touches, Part.nodeChange, Part.ending, Part.publication, Part.handOn]) (by simp [Instr.touches, Part.nodeChange, Part.ending, Part.publication, Part.handOn]) (by simp [Instr.touches, Part.nodeChange, Part.ending, Part.publication, Part.handOn]) (fun e u hu => by simp [Instr.touches, Part.nodeChange, Part.ending, Part.publication, Part.handOn] at hu ⊢; simp (maxDischargeDepth := 60) [hu]) h

theorem exec_queryLocks_via {s t : State} (h : exec .queryLocks s = .next t) :
    s.via (Instr.touches .queryLocks) t := by
  change execQueryLocks s = _ at h; unfold execQueryLocks at h
  exact request_via (by simp [Instr.touches, Part.nodeChange, Part.ending, Part.publication, Part.handOn]) (by simp [Instr.touches, Part.nodeChange, Part.ending, Part.publication, Part.handOn]) (by simp [Instr.touches, Part.nodeChange, Part.ending, Part.publication, Part.handOn]) (by simp [Instr.touches, Part.nodeChange, Part.ending, Part.publication, Part.handOn]) (by simp [Instr.touches, Part.nodeChange, Part.ending, Part.publication, Part.handOn]) (by simp [Instr.touches, Part.nodeChange, Part.ending, Part.publication, Part.handOn]) (fun e u hu => by simp [Instr.touches, Part.nodeChange, Part.ending, Part.publication, Part.handOn] at hu ⊢; simp (maxDischargeDepth := 60) [hu]) h

theorem exec_toolOpen_via {s t : State} (h : exec .toolOpen s = .next t) :
    s.via (Instr.touches .toolOpen) t := by
  change execToolOpen s = _ at h; unfold execToolOpen at h
  exact request_via (by simp [Instr.touches, Part.nodeChange, Part.ending, Part.publication, Part.handOn]) (by simp [Instr.touches, Part.nodeChange, Part.ending, Part.publication, Part.handOn]) (by simp [Instr.touches, Part.nodeChange, Part.ending, Part.publication, Part.handOn]) (by simp [Instr.touches, Part.nodeChange, Part.ending, Part.publication, Part.handOn]) (by simp [Instr.touches, Part.nodeChange, Part.ending, Part.publication, Part.handOn]) (by simp [Instr.touches, Part.nodeChange, Part.ending, Part.publication, Part.handOn]) (fun e u hu => by simp [Instr.touches, Part.nodeChange, Part.ending, Part.publication, Part.handOn] at hu ⊢; simp (maxDischargeDepth := 60) [hu]) h

theorem exec_toolClose_via {s t : State} (h : exec .toolClose s = .next t) :
    s.via (Instr.touches .toolClose) t := by
  change execToolClose s = _ at h; unfold execToolClose at h
  exact request_via (by simp [Instr.touches, Part.nodeChange, Part.ending, Part.publication, Part.handOn]) (by simp [Instr.touches, Part.nodeChange, Part.ending, Part.publication, Part.handOn]) (by simp [Instr.touches, Part.nodeChange, Part.ending, Part.publication, Part.handOn]) (by simp [Instr.touches, Part.nodeChange, Part.ending, Part.publication, Part.handOn]) (by simp [Instr.touches, Part.nodeChange, Part.ending, Part.publication, Part.handOn]) (by simp [Instr.touches, Part.nodeChange, Part.ending, Part.publication, Part.handOn]) (fun e u hu => by simp [Instr.touches, Part.nodeChange, Part.ending, Part.publication, Part.handOn] at hu ⊢; simp (maxDischargeDepth := 60) [hu]) h

theorem exec_toolHold_via {s t : State} (h : exec .toolHold s = .next t) :
    s.via (Instr.touches .toolHold) t := by
  change execToolHold s = _ at h; unfold execToolHold at h
  exact request_via (by simp [Instr.touches, Part.nodeChange, Part.ending, Part.publication, Part.handOn]) (by simp [Instr.touches, Part.nodeChange, Part.ending, Part.publication, Part.handOn]) (by simp [Instr.touches, Part.nodeChange, Part.ending, Part.publication, Part.handOn]) (by simp [Instr.touches, Part.nodeChange, Part.ending, Part.publication, Part.handOn]) (by simp [Instr.touches, Part.nodeChange, Part.ending, Part.publication, Part.handOn]) (by simp [Instr.touches, Part.nodeChange, Part.ending, Part.publication, Part.handOn]) (fun e u hu => by simp [Instr.touches, Part.nodeChange, Part.ending, Part.publication, Part.handOn] at hu ⊢; simp (maxDischargeDepth := 60) [hu]) h

theorem exec_resetNode_via {s t : State} (h : exec .resetNode s = .next t) :
    s.via (Instr.touches .resetNode) t ∨ s.isRequestedReset t := by
  change execResetNode s = _ at h; unfold execResetNode at h
  split at h
  · obtain rfl := Host.Outcome.next.inj h
    simp only [Instr.touches, Part.publication, List.cons_append, List.nil_append]
    refine conclude_via (by simp) (by simp) (by simp) (by simp) ?_
    exact State.via_handleRequest (State.via_dropHeld (State.via_refl _ _) (by simp) (by simp)) (by simp) (by simp)
      (by simp) (by simp) _ (fun e u hu => State.via_takeResetNode hu (by simp) (by simp) e) _
  · obtain rfl := Host.Outcome.next.inj h
    left; exact State.via_refl _ _

/-- The outcome of a reset that a command of its own brings (R209). -/
def State.isReset (s t : State) : Prop := ∃ c p pins, t = State.afterReset c p pins s.sens s.pending

theorem State.isReset_of_requested {s t : State} (h : s.isRequestedReset t) : s.isReset t :=
  let ⟨p, hp⟩ := h; ⟨_, p, _, hp⟩

/-- Every command keeps the parts it does not touch, or resets the block. -/
theorem exec_via {i : Instr} {s t : State} (h : exec i s = .next t) :
    s.via i.touches t ∨ (i.canReset = true ∧ s.isReset t) := by
  cases i with
  | powerOn p => right; obtain rfl := Host.Outcome.next.inj h; exact ⟨rfl, _, _, _, rfl⟩
  | supplyDip p => right; obtain rfl := Host.Outcome.next.inj h; exact ⟨rfl, _, _, _, rfl⟩
  | resetLine p => right; obtain rfl := Host.Outcome.next.inj h; exact ⟨rfl, _, _, _, rfl⟩
  | listenTimerExpiry => exact Or.inl (exec_listenTimerExpiry_via h)
  | stopLineAsserted => exact Or.inl (exec_stopLineAsserted_via h)
  | stopLineReleased => exact Or.inl (exec_stopLineReleased_via h)
  | kellyHomeActive => exact Or.inl (exec_kellyHomeActive_via h)
  | kellyHomeInactive => exact Or.inl (exec_kellyHomeInactive_via h)
  | brakeReleaseExpiry => exact Or.inl (exec_brakeReleaseExpiry_via h)
  | brakeSetExpiry => exact Or.inl (exec_brakeSetExpiry_via h)
  | slackTimerExpiry => exact Or.inl (exec_slackTimerExpiry_via h)
  | stallTimerExpiry => exact Or.inl (exec_stallTimerExpiry_via h)
  | periodicTimerExpiry => exact Or.inl (exec_periodicTimerExpiry_via h)
  | publicationWaitExpiry => exact Or.inl (exec_publicationWaitExpiry_via h)
  | parkEntryTimerExpiry => exact Or.inl (exec_parkEntryTimerExpiry_via h)
  | wakeTimerExpiry => exact Or.inl (exec_wakeTimerExpiry_via h)
  | ropeEvent _ => exact Or.inl (exec_ropeEvent_via h)
  | ropeTensionEvent _ => exact Or.inl (exec_ropeTensionEvent_via h)
  | axisSpeedEvent _ => exact Or.inl (exec_axisSpeedEvent_via h)
  | strokeEvent _ => exact Or.inl (exec_strokeEvent_via h)
  | crowdForceEvent _ => exact Or.inl (exec_crowdForceEvent_via h)
  | angleEvent _ => exact Or.inl (exec_angleEvent_via h)
  | torqueEvent _ => exact Or.inl (exec_torqueEvent_via h)
  | agingStep _ => exact Or.inl (exec_agingStep_via h)
  | sendBoundExpiry _ => exact Or.inl (exec_sendBoundExpiry_via h)
  | subRequestSlowWindowEnd _ => exact Or.inl (exec_subRequestSlowWindowEnd_via h)
  | startDeadlineExpiry _ => exact Or.inl (exec_startDeadlineExpiry_via h)
  | replyDeadlineExpiry _ => exact Or.inl (exec_replyDeadlineExpiry_via h)
  | fastWindowEnd _ => exact Or.inl (exec_fastWindowEnd_via h)
  | defaultSlowWindowEnd _ => exact Or.inl (exec_defaultSlowWindowEnd_via h)
  | transmitStart _ => exact Or.inl (exec_transmitStart_via h)
  | characterError _ _ _ => exact (exec_characterError_via h).imp id fun hr => ⟨rfl, State.isReset_of_requested hr⟩
  | truncated _ => exact (exec_truncated_via h).imp id fun hr => ⟨rfl, State.isReset_of_requested hr⟩
  | frameComplete _ => exact (exec_frameComplete_via h).imp id fun hr => ⟨rfl, State.isReset_of_requested hr⟩
  | characterReceived _ => exact (exec_characterReceived_via h).imp id fun hr => ⟨rfl, State.isReset_of_requested hr⟩
  | noisePulse => exact Or.inl (exec_noisePulse_via h)
  | skipQuietEnd _ => exact Or.inl (exec_skipQuietEnd_via h)
  | arbitrationLost => exact (exec_arbitrationLost_via h).imp id fun hr => ⟨rfl, State.isReset_of_requested hr⟩
  | readBackFailure => exact (exec_readBackFailure_via h).imp id fun hr => ⟨rfl, State.isReset_of_requested hr⟩
  | txComplete => exact (exec_txComplete_via h).imp id fun hr => ⟨rfl, State.isReset_of_requested hr⟩
  | unknownKindDiscard => exact Or.inl (exec_unknownKindDiscard_via h)
  | publishHandled => exact Or.inl (exec_publishHandled_via h)
  | claimHandled => exact Or.inl (exec_claimHandled_via h)
  | replyHandled => exact Or.inl (exec_replyHandled_via h)
  | stopHandled => exact Or.inl (exec_stopHandled_via h)
  | setupHandled => exact Or.inl (exec_setupHandled_via h)
  | start => exact Or.inl (exec_start_via h)
  | halt => exact Or.inl (exec_halt_via h)
  | undefinedFunction => exact Or.inl (exec_undefinedFunction_via h)
  | unownedRequest => exact Or.inl (exec_unownedRequest_via h)
  | park => exact Or.inl (exec_park_via h)
  | clearFault => exact Or.inl (exec_clearFault_via h)
  | queryPeer => exact Or.inl (exec_queryPeer_via h)
  | queryNode => exact Or.inl (exec_queryNode_via h)
  | winchMove => exact Or.inl (exec_winchMove_via h)
  | lower => exact Or.inl (exec_lower_via h)
  | lift => exact Or.inl (exec_lift_via h)
  | extend => exact Or.inl (exec_extend_via h)
  | setDatum => exact Or.inl (exec_setDatum_via h)
  | assertPicture => exact Or.inl (exec_assertPicture_via h)
  | queryKelly => exact Or.inl (exec_queryKelly_via h)
  | crowdMove => exact Or.inl (exec_crowdMove_via h)
  | queryCrowd => exact Or.inl (exec_queryCrowd_via h)
  | rotaryMove => exact Or.inl (exec_rotaryMove_via h)
  | lock => exact Or.inl (exec_lock_via h)
  | release => exact Or.inl (exec_release_via h)
  | bore => exact Or.inl (exec_bore_via h)
  | boreStop => exact Or.inl (exec_boreStop_via h)
  | spinOff => exact Or.inl (exec_spinOff_via h)
  | queryLocks => exact Or.inl (exec_queryLocks_via h)
  | toolOpen => exact Or.inl (exec_toolOpen_via h)
  | toolClose => exact Or.inl (exec_toolClose_via h)
  | toolHold => exact Or.inl (exec_toolHold_via h)
  | resetNode => exact (exec_resetNode_via h).imp id fun hr => ⟨rfl, State.isReset_of_requested hr⟩

/-- Every command answers a next state. -/
theorem handled_answers (row : Instr) (act : RxFrame → State → State) (s : State) :
    ∃ t, handled row act s = .next t := by
  unfold handled; split <;> exact ⟨_, rfl⟩

theorem exec_answers (i : Instr) (s : State) : ∃ t, exec i s = .next t := by
  cases i <;> first | exact handled_answers _ _ _ | exact ⟨_, rfl⟩ | exact handled_answers _ (fun _ s => s) s | skip
  show ∃ t, execResetNode s = .next t
  unfold execResetNode; split <;> exact ⟨_, rfl⟩

theorem exec_pending {i : Instr} {s t : State} (h : exec i s = .next t) : t.pending = s.pending := by
  rcases exec_via h with h | ⟨-, _, _, _, rfl⟩
  · exact h.pending
  · rfl

theorem exec_bounded {i : Instr} {s t : State} (h : exec i s = .next t) (hs : s.bounded) : t.bounded := by
  rcases exec_via h with h | ⟨-, _, _, _, rfl⟩
  · exact h.bounded hs
  · exact State.bounded_afterReset _ _ _ _ _

theorem State.conclude_settled (s : State) : s.conclude.settled := by
  unfold State.conclude
  split
  · rfl
  · exact s.finish_settled

theorem taken_settled {b : Bool} {act : State → State} {s t : State} (h : taken b act s = .next t)
    (hs : s.settled) : t.settled := by
  unfold taken at h
  obtain rfl := Host.Outcome.next.inj h
  cases b
  · exact hs
  · exact State.finish_settled _

theorem takenOnLine_settled {b : Bool} {act : State → State} {s t : State} (h : takenOnLine b act s = .next t)
    (hs : s.settled) : t.settled := by
  unfold takenOnLine at h
  obtain rfl := Host.Outcome.next.inj h
  cases b
  · exact hs
  · exact State.conclude_settled _

theorem handled_settled {row : Instr} {act : RxFrame → State → State} {s t : State} (h : handled row act s = .next t)
    (hs : s.settled) : t.settled := by
  unfold handled at h
  split at h
  · obtain rfl := Host.Outcome.next.inj h; exact State.finish_settled _
  · obtain rfl := Host.Outcome.next.inj h; exact hs

theorem exec_settled {i : Instr} {s t : State} (h : exec i s = .next t) (hs : s.settled) : t.settled := by
  cases i <;> dsimp only [exec] at h <;>
    first
    | exact taken_settled (b := _) (act := _) h hs
    | exact takenOnLine_settled (b := _) (act := _) h hs
    | exact handled_settled h hs
    | (obtain rfl := Host.Outcome.next.inj h; rfl)
    | skip
  change execResetNode s = _ at h
  unfold execResetNode at h
  split at h
  · obtain rfl := Host.Outcome.next.inj h; exact State.conclude_settled _
  · obtain rfl := Host.Outcome.next.inj h; exact hs

theorem State.tick_bounded {s : State} (hs : s.bounded) : s.tick.bounded := by
  obtain ⟨⟨l1, l2, l3, l4, l5, l6⟩, ⟨r1, r2, r3, r4, r5⟩, hp, hn⟩ := hs
  refine ⟨⟨l1, l2, l3, ?_, l5, l6⟩, ⟨r1, r2, r3, ?_, r5⟩, ?_, hn⟩
  · simpa [State.tick, State.elapse, LinePort.runDown] using l4
  · simpa [State.tick, State.elapse] using r4
  · exact peersOrdered_map (f := Peer.older ((s.clockUs + s.bitUs) / 1000)) (fun _ => rfl) (fun _ h => h) hp

theorem State.tick_settled {s : State} (hs : s.settled) : s.tick.settled := hs

end Sys2Proof.Machine
end

