-- ==== Sys2Proof/Laws/Fields.lean ====
section
/-! SUPPORT. What the shared operations that are no plain update leave: one lemma for each operation and each field it
does not touch, and the value of the field it does. -/

namespace Sys2Proof.Machine

@[simp] theorem State.signal_pending (s : State) : (s.signal).pending = s.pending := rfl
@[simp] theorem State.signal_clockUs (s : State) : (s.signal).clockUs = s.clockUs := rfl
@[simp] theorem State.signal_sens (s : State) : (s.signal).sens = s.sens := rfl
@[simp] theorem State.signal_node (s : State) : (s.signal).node = s.node := rfl
@[simp] theorem State.signal_line (s : State) : (s.signal).line = s.line := rfl
@[simp] theorem State.signal_req (s : State) : (s.signal).req = s.req := rfl
@[simp] theorem State.signal_peers (s : State) : (s.signal).peers = s.peers := rfl
@[simp] theorem State.signal_share (s : State) : (s.signal).share = s.share := rfl
@[simp] theorem State.signal_trk (s : State) : (s.signal).trk = s.trk := rfl
@[simp] theorem State.signal_locks (s : State) : (s.signal).locks = s.locks := rfl
@[simp] theorem State.signal_drv (s : State) : (s.signal).drv = s.drv := rfl
@[simp] theorem State.signal_op (s : State) : (s.signal).op = s.op := rfl

@[simp] theorem State.signalIf_pending (b : Bool) (s : State) : (s.signalIf b).pending = s.pending := by cases b <;> rfl
@[simp] theorem State.signalIf_clockUs (b : Bool) (s : State) : (s.signalIf b).clockUs = s.clockUs := by cases b <;> rfl
@[simp] theorem State.signalIf_sens (b : Bool) (s : State) : (s.signalIf b).sens = s.sens := by cases b <;> rfl
@[simp] theorem State.signalIf_node (b : Bool) (s : State) : (s.signalIf b).node = s.node := by cases b <;> rfl
@[simp] theorem State.signalIf_line (b : Bool) (s : State) : (s.signalIf b).line = s.line := by cases b <;> rfl
@[simp] theorem State.signalIf_req (b : Bool) (s : State) : (s.signalIf b).req = s.req := by cases b <;> rfl
@[simp] theorem State.signalIf_peers (b : Bool) (s : State) : (s.signalIf b).peers = s.peers := by cases b <;> rfl
@[simp] theorem State.signalIf_share (b : Bool) (s : State) : (s.signalIf b).share = s.share := by cases b <;> rfl
@[simp] theorem State.signalIf_trk (b : Bool) (s : State) : (s.signalIf b).trk = s.trk := by cases b <;> rfl
@[simp] theorem State.signalIf_locks (b : Bool) (s : State) : (s.signalIf b).locks = s.locks := by cases b <;> rfl
@[simp] theorem State.signalIf_drv (b : Bool) (s : State) : (s.signalIf b).drv = s.drv := by cases b <;> rfl
@[simp] theorem State.signalIf_op (b : Bool) (s : State) : (s.signalIf b).op = s.op := by cases b <;> rfl

@[simp] theorem State.signal_signal (s : State) : s.signal.pub.signal = true := rfl
@[simp] theorem State.signalIf_signal (b : Bool) (s : State) : (s.signalIf b).pub.signal = (b || s.pub.signal) := by
  cases b <;> rfl

@[simp] theorem State.setDrv_pending (d : Drive) (s : State) : (s.setDrv d).pending = s.pending := by
  simp [State.setDrv]
@[simp] theorem State.setDrv_clockUs (d : Drive) (s : State) : (s.setDrv d).clockUs = s.clockUs := by
  simp [State.setDrv]
@[simp] theorem State.setDrv_sens (d : Drive) (s : State) : (s.setDrv d).sens = s.sens := by
  simp [State.setDrv]
@[simp] theorem State.setDrv_node (d : Drive) (s : State) : (s.setDrv d).node = s.node := by
  simp [State.setDrv]
@[simp] theorem State.setDrv_line (d : Drive) (s : State) : (s.setDrv d).line = s.line := by
  simp [State.setDrv]
@[simp] theorem State.setDrv_req (d : Drive) (s : State) : (s.setDrv d).req = s.req := by
  simp [State.setDrv]
@[simp] theorem State.setDrv_peers (d : Drive) (s : State) : (s.setDrv d).peers = s.peers := by
  simp [State.setDrv]
@[simp] theorem State.setDrv_share (d : Drive) (s : State) : (s.setDrv d).share = s.share := by
  simp [State.setDrv]
@[simp] theorem State.setDrv_trk (d : Drive) (s : State) : (s.setDrv d).trk = s.trk := by
  simp [State.setDrv]
@[simp] theorem State.setDrv_locks (d : Drive) (s : State) : (s.setDrv d).locks = s.locks := by
  simp [State.setDrv]
@[simp] theorem State.setDrv_op (d : Drive) (s : State) : (s.setDrv d).op = s.op := by
  simp [State.setDrv]

@[simp] theorem State.setDrv_drv (d : Drive) (s : State) : (s.setDrv d).drv = d.tidy := by simp [State.setDrv]

@[simp] theorem State.setFault_pending (k : FaultKind) (s : State) : (s.setFault k).pending = s.pending := by
  simp [State.setFault]
@[simp] theorem State.setFault_clockUs (k : FaultKind) (s : State) : (s.setFault k).clockUs = s.clockUs := by
  simp [State.setFault]
@[simp] theorem State.setFault_sens (k : FaultKind) (s : State) : (s.setFault k).sens = s.sens := by
  simp [State.setFault]
@[simp] theorem State.setFault_line (k : FaultKind) (s : State) : (s.setFault k).line = s.line := by
  simp [State.setFault]
@[simp] theorem State.setFault_req (k : FaultKind) (s : State) : (s.setFault k).req = s.req := by
  simp [State.setFault]
@[simp] theorem State.setFault_peers (k : FaultKind) (s : State) : (s.setFault k).peers = s.peers := by
  simp [State.setFault]
@[simp] theorem State.setFault_share (k : FaultKind) (s : State) : (s.setFault k).share = s.share := by
  simp [State.setFault]
@[simp] theorem State.setFault_trk (k : FaultKind) (s : State) : (s.setFault k).trk = s.trk := by
  simp [State.setFault]
@[simp] theorem State.setFault_locks (k : FaultKind) (s : State) : (s.setFault k).locks = s.locks := by
  simp [State.setFault]
@[simp] theorem State.setFault_drv (k : FaultKind) (s : State) : (s.setFault k).drv = s.drv := by
  simp [State.setFault]
@[simp] theorem State.setFault_op (k : FaultKind) (s : State) : (s.setFault k).op = s.op := by
  simp [State.setFault]

@[simp] theorem State.setFault_node (k : FaultKind) (s : State) :
    (s.setFault k).node = { s.node with faults := s.node.faults.put k true } := by simp [State.setFault]

@[simp] theorem State.clearFault_pending (k : FaultKind) (s : State) : (s.clearFault k).pending = s.pending := by
  simp [State.clearFault]
@[simp] theorem State.clearFault_clockUs (k : FaultKind) (s : State) : (s.clearFault k).clockUs = s.clockUs := by
  simp [State.clearFault]
@[simp] theorem State.clearFault_sens (k : FaultKind) (s : State) : (s.clearFault k).sens = s.sens := by
  simp [State.clearFault]
@[simp] theorem State.clearFault_line (k : FaultKind) (s : State) : (s.clearFault k).line = s.line := by
  simp [State.clearFault]
@[simp] theorem State.clearFault_req (k : FaultKind) (s : State) : (s.clearFault k).req = s.req := by
  simp [State.clearFault]
@[simp] theorem State.clearFault_peers (k : FaultKind) (s : State) : (s.clearFault k).peers = s.peers := by
  simp [State.clearFault]
@[simp] theorem State.clearFault_share (k : FaultKind) (s : State) : (s.clearFault k).share = s.share := by
  simp [State.clearFault]
@[simp] theorem State.clearFault_trk (k : FaultKind) (s : State) : (s.clearFault k).trk = s.trk := by
  simp [State.clearFault]
@[simp] theorem State.clearFault_locks (k : FaultKind) (s : State) : (s.clearFault k).locks = s.locks := by
  simp [State.clearFault]
@[simp] theorem State.clearFault_drv (k : FaultKind) (s : State) : (s.clearFault k).drv = s.drv := by
  simp [State.clearFault]
@[simp] theorem State.clearFault_op (k : FaultKind) (s : State) : (s.clearFault k).op = s.op := by
  simp [State.clearFault]

@[simp] theorem State.clearFault_node (k : FaultKind) (s : State) :
    (s.clearFault k).node = { s.node with faults := s.node.faults.put k false } := by simp [State.clearFault]

@[simp] theorem State.withdraw_pending (m : Producer → Bool) (s : State) : (s.withdraw m).pending = s.pending := rfl
@[simp] theorem State.withdraw_clockUs (m : Producer → Bool) (s : State) : (s.withdraw m).clockUs = s.clockUs := rfl
@[simp] theorem State.withdraw_sens (m : Producer → Bool) (s : State) : (s.withdraw m).sens = s.sens := rfl
@[simp] theorem State.withdraw_node (m : Producer → Bool) (s : State) : (s.withdraw m).node = s.node := rfl
@[simp] theorem State.withdraw_req (m : Producer → Bool) (s : State) : (s.withdraw m).req = s.req := rfl
@[simp] theorem State.withdraw_peers (m : Producer → Bool) (s : State) : (s.withdraw m).peers = s.peers := rfl
@[simp] theorem State.withdraw_pub (m : Producer → Bool) (s : State) : (s.withdraw m).pub = s.pub := rfl
@[simp] theorem State.withdraw_share (m : Producer → Bool) (s : State) : (s.withdraw m).share = s.share := rfl
@[simp] theorem State.withdraw_trk (m : Producer → Bool) (s : State) : (s.withdraw m).trk = s.trk := rfl
@[simp] theorem State.withdraw_locks (m : Producer → Bool) (s : State) : (s.withdraw m).locks = s.locks := rfl
@[simp] theorem State.withdraw_drv (m : Producer → Bool) (s : State) : (s.withdraw m).drv = s.drv := rfl
@[simp] theorem State.withdraw_op (m : Producer → Bool) (s : State) : (s.withdraw m).op = s.op := rfl

@[simp] theorem State.removeEntry_pending (n : Nat) (s : State) : (s.removeEntry n).pending = s.pending := rfl
@[simp] theorem State.removeEntry_clockUs (n : Nat) (s : State) : (s.removeEntry n).clockUs = s.clockUs := rfl
@[simp] theorem State.removeEntry_sens (n : Nat) (s : State) : (s.removeEntry n).sens = s.sens := rfl
@[simp] theorem State.removeEntry_node (n : Nat) (s : State) : (s.removeEntry n).node = s.node := rfl
@[simp] theorem State.removeEntry_line (n : Nat) (s : State) : (s.removeEntry n).line = s.line := rfl
@[simp] theorem State.removeEntry_peers (n : Nat) (s : State) : (s.removeEntry n).peers = s.peers := rfl
@[simp] theorem State.removeEntry_pub (n : Nat) (s : State) : (s.removeEntry n).pub = s.pub := rfl
@[simp] theorem State.removeEntry_share (n : Nat) (s : State) : (s.removeEntry n).share = s.share := rfl
@[simp] theorem State.removeEntry_trk (n : Nat) (s : State) : (s.removeEntry n).trk = s.trk := rfl
@[simp] theorem State.removeEntry_locks (n : Nat) (s : State) : (s.removeEntry n).locks = s.locks := rfl
@[simp] theorem State.removeEntry_drv (n : Nat) (s : State) : (s.removeEntry n).drv = s.drv := rfl
@[simp] theorem State.removeEntry_op (n : Nat) (s : State) : (s.removeEntry n).op = s.op := rfl

@[simp] theorem State.setEntry_pending (n : Nat) (x : EntryState) (s : State) : (s.setEntry n x).pending = s.pending := rfl
@[simp] theorem State.setEntry_clockUs (n : Nat) (x : EntryState) (s : State) : (s.setEntry n x).clockUs = s.clockUs := rfl
@[simp] theorem State.setEntry_sens (n : Nat) (x : EntryState) (s : State) : (s.setEntry n x).sens = s.sens := rfl
@[simp] theorem State.setEntry_node (n : Nat) (x : EntryState) (s : State) : (s.setEntry n x).node = s.node := rfl
@[simp] theorem State.setEntry_line (n : Nat) (x : EntryState) (s : State) : (s.setEntry n x).line = s.line := rfl
@[simp] theorem State.setEntry_peers (n : Nat) (x : EntryState) (s : State) : (s.setEntry n x).peers = s.peers := rfl
@[simp] theorem State.setEntry_pub (n : Nat) (x : EntryState) (s : State) : (s.setEntry n x).pub = s.pub := rfl
@[simp] theorem State.setEntry_share (n : Nat) (x : EntryState) (s : State) : (s.setEntry n x).share = s.share := rfl
@[simp] theorem State.setEntry_trk (n : Nat) (x : EntryState) (s : State) : (s.setEntry n x).trk = s.trk := rfl
@[simp] theorem State.setEntry_locks (n : Nat) (x : EntryState) (s : State) : (s.setEntry n x).locks = s.locks := rfl
@[simp] theorem State.setEntry_drv (n : Nat) (x : EntryState) (s : State) : (s.setEntry n x).drv = s.drv := rfl
@[simp] theorem State.setEntry_op (n : Nat) (x : EntryState) (s : State) : (s.setEntry n x).op = s.op := rfl

@[simp] theorem State.holdTool_pending (s : State) : (s.holdTool).pending = s.pending := by
  simp [State.holdTool]
@[simp] theorem State.holdTool_clockUs (s : State) : (s.holdTool).clockUs = s.clockUs := by
  simp [State.holdTool]
@[simp] theorem State.holdTool_sens (s : State) : (s.holdTool).sens = s.sens := by
  simp [State.holdTool]
@[simp] theorem State.holdTool_node (s : State) : (s.holdTool).node = s.node := by
  simp [State.holdTool]
@[simp] theorem State.holdTool_line (s : State) : (s.holdTool).line = s.line := by
  simp [State.holdTool]
@[simp] theorem State.holdTool_req (s : State) : (s.holdTool).req = s.req := by
  simp [State.holdTool]
@[simp] theorem State.holdTool_peers (s : State) : (s.holdTool).peers = s.peers := by
  simp [State.holdTool]
@[simp] theorem State.holdTool_share (s : State) : (s.holdTool).share = s.share := by
  simp [State.holdTool]
@[simp] theorem State.holdTool_trk (s : State) : (s.holdTool).trk = s.trk := by
  simp [State.holdTool]
@[simp] theorem State.holdTool_locks (s : State) : (s.holdTool).locks = s.locks := by
  simp [State.holdTool]
@[simp] theorem State.holdTool_op (s : State) : (s.holdTool).op = s.op := by
  simp [State.holdTool]

@[simp] theorem State.holdDrive_pending (s : State) : (s.holdDrive).pending = s.pending := by
  simp [State.holdDrive]
@[simp] theorem State.holdDrive_clockUs (s : State) : (s.holdDrive).clockUs = s.clockUs := by
  simp [State.holdDrive]
@[simp] theorem State.holdDrive_sens (s : State) : (s.holdDrive).sens = s.sens := by
  simp [State.holdDrive]
@[simp] theorem State.holdDrive_node (s : State) : (s.holdDrive).node = s.node := by
  simp [State.holdDrive]
@[simp] theorem State.holdDrive_line (s : State) : (s.holdDrive).line = s.line := by
  simp [State.holdDrive]
@[simp] theorem State.holdDrive_req (s : State) : (s.holdDrive).req = s.req := by
  simp [State.holdDrive]
@[simp] theorem State.holdDrive_peers (s : State) : (s.holdDrive).peers = s.peers := by
  simp [State.holdDrive]
@[simp] theorem State.holdDrive_share (s : State) : (s.holdDrive).share = s.share := by
  simp [State.holdDrive]
@[simp] theorem State.holdDrive_trk (s : State) : (s.holdDrive).trk = s.trk := by
  simp [State.holdDrive]
@[simp] theorem State.holdDrive_locks (s : State) : (s.holdDrive).locks = s.locks := by
  simp [State.holdDrive]
@[simp] theorem State.holdDrive_op (s : State) : (s.holdDrive).op = s.op := by
  simp [State.holdDrive]

@[simp] theorem State.judgeWithheld_pending (s : State) : (s.judgeWithheld).pending = s.pending := by
  simp [State.judgeWithheld]
@[simp] theorem State.judgeWithheld_clockUs (s : State) : (s.judgeWithheld).clockUs = s.clockUs := by
  simp [State.judgeWithheld]
@[simp] theorem State.judgeWithheld_sens (s : State) : (s.judgeWithheld).sens = s.sens := by
  simp [State.judgeWithheld]
@[simp] theorem State.judgeWithheld_node (s : State) : (s.judgeWithheld).node = s.node := by
  simp [State.judgeWithheld]
@[simp] theorem State.judgeWithheld_line (s : State) : (s.judgeWithheld).line = s.line := by
  simp [State.judgeWithheld]
@[simp] theorem State.judgeWithheld_req (s : State) : (s.judgeWithheld).req = s.req := by
  simp [State.judgeWithheld]
@[simp] theorem State.judgeWithheld_peers (s : State) : (s.judgeWithheld).peers = s.peers := by
  simp [State.judgeWithheld]
@[simp] theorem State.judgeWithheld_share (s : State) : (s.judgeWithheld).share = s.share := by
  simp [State.judgeWithheld]
@[simp] theorem State.judgeWithheld_trk (s : State) : (s.judgeWithheld).trk = s.trk := by
  simp [State.judgeWithheld]
@[simp] theorem State.judgeWithheld_locks (s : State) : (s.judgeWithheld).locks = s.locks := by
  simp [State.judgeWithheld]
@[simp] theorem State.judgeWithheld_op (s : State) : (s.judgeWithheld).op = s.op := by
  simp [State.judgeWithheld]

@[simp] theorem State.giveHold_pending (s : State) : (s.giveHold).pending = s.pending := by
  simp [State.giveHold]
@[simp] theorem State.giveHold_clockUs (s : State) : (s.giveHold).clockUs = s.clockUs := by
  simp [State.giveHold]
@[simp] theorem State.giveHold_sens (s : State) : (s.giveHold).sens = s.sens := by
  simp [State.giveHold]
@[simp] theorem State.giveHold_node (s : State) : (s.giveHold).node = s.node := by
  simp [State.giveHold]
@[simp] theorem State.giveHold_line (s : State) : (s.giveHold).line = s.line := by
  simp [State.giveHold]
@[simp] theorem State.giveHold_req (s : State) : (s.giveHold).req = s.req := by
  simp [State.giveHold]
@[simp] theorem State.giveHold_peers (s : State) : (s.giveHold).peers = s.peers := by
  simp [State.giveHold]
@[simp] theorem State.giveHold_share (s : State) : (s.giveHold).share = s.share := by
  simp [State.giveHold]
@[simp] theorem State.giveHold_trk (s : State) : (s.giveHold).trk = s.trk := by
  simp [State.giveHold]
@[simp] theorem State.giveHold_locks (s : State) : (s.giveHold).locks = s.locks := by
  simp [State.giveHold]
@[simp] theorem State.giveHold_op (s : State) : (s.giveHold).op = s.op := by
  simp [State.giveHold]

/-- R82 to R87: what going to HOLD makes of the drive, as the statements say it. -/
theorem Drive.tidy_toHold (n : Nat) (d : Drive) :
    (d.toHold n).tidy.mode = .hold ∧ (d.toHold n).tidy.pending = none ∧ (d.toHold n).tidy.claim = Claim.none
      ∧ (d.toHold n).tidy.source = none
      ∧ (d.toHold n).tidy.state = (if d.state = .held then .held else .setting)
      ∧ (d.toHold n).tidy.timer = (if d.state = .releasing ∨ d.state = .active then Timer.ms n else d.timer) := by
  unfold Drive.toHold
  cases d.state <;> simp [Drive.tidy]

end Sys2Proof.Machine
end

