-- ==== Sys2Proof/Laws/Offers.lean ====
section
/-! SUPPORT. What an offer (R195), a REPLY (R172), a withdrawal (R196) and the end of an event (R160) do to the frames
of the transmit queue: a frame offered with room is queued, and a queued frame that is no PUBLISH stays. -/

namespace Sys2Proof.Machine

/-! ### The parts an offer leaves -/

theorem State.offerAt_dropped_or_queue (enter : TxFrame → List TxFrame → List TxFrame) (f : TxFrame) (s : State) :
    s.offerAt enter f = s.dropped f ∨ ∃ q, s.offerAt enter f = s.withQueue q := by
  unfold State.offerAt
  dsimp only
  repeat' split
  · exact Or.inr ⟨s.line.queue, rfl⟩
  · exact Or.inr ⟨_, rfl⟩
  · exact Or.inr ⟨_, rfl⟩
  · exact Or.inr ⟨_, rfl⟩
  · exact Or.inl rfl

@[simp] theorem State.offer_silenced (f : TxFrame) (s : State) : (s.offer f).silenced = s.silenced := by
  rcases s.offerAt_dropped_or_queue enterAtTail f with h | ⟨q, h⟩ <;> rw [State.offer, h]
  · unfold State.dropped State.dropRecord; dsimp only; split <;> rfl
  · rfl

theorem State.offerAll_cons (f : TxFrame) (fs : List TxFrame) (s : State) :
    s.offerAll (f :: fs) = (s.offer f).offerAll fs := rfl

@[simp] theorem State.offerAll_nil (s : State) : s.offerAll [] = s := rfl

@[simp] theorem State.offerAll_silenced (fs : List TxFrame) (s : State) : (s.offerAll fs).silenced = s.silenced := by
  induction fs generalizing s with
  | nil => rfl
  | cons f fs ih => rw [State.offerAll_cons, ih, State.offer_silenced]

theorem State.dropped_queue (f : TxFrame) (s : State) : (s.dropped f).line.queue = s.line.queue := by
  unfold State.dropped State.dropRecord; dsimp only; split <;> rfl

/-! ### Frames queued -/

/-- With room, whatever stands in the queue, an offered frame is queued. -/
theorem State.mem_offerAt {enter : TxFrame → List TxFrame → List TxFrame} (he : Enters enter) (f : TxFrame) (s : State)
    (hs : s.silenced = false) (hl : s.line.queue.length < 6) : f ∈ (s.offerAt enter f).line.queue := by
  unfold State.offerAt
  dsimp only
  rw [if_neg (by simp [hs])]
  split
  · rename_i h
    simp only [Bool.and_eq_true, List.any_eq_true] at h
    obtain ⟨-, g, hg, hp⟩ := h
    exact List.mem_map.mpr ⟨g, hg, by simp [hp]⟩
  · exact (he.mem f _ f).mpr (Or.inl rfl)

/-- A queued frame that is no PUBLISH stays when a frame is offered. -/
theorem State.mem_offerAt_of_mem {enter : TxFrame → List TxFrame → List TxFrame} (he : Enters enter) (f g : TxFrame)
    (s : State) (hg : g ∈ s.line.queue) (hk : g.isPublish = false) : g ∈ (s.offerAt enter f).line.queue := by
  unfold State.offerAt
  dsimp only
  split
  · exact hg
  split
  · exact List.mem_map.mpr ⟨g, hg, by simp [hk]⟩
  split
  · exact (he.mem f _ g).mpr (Or.inr hg)
  split
  · exact (he.mem f _ g).mpr (Or.inr (List.mem_filter.mpr ⟨hg, by simp [hk]⟩))
  · rw [State.dropped_queue]; exact hg

theorem State.length_offerAt {enter : TxFrame → List TxFrame → List TxFrame} (he : Enters enter) (f : TxFrame)
    (s : State) : (s.offerAt enter f).line.queue.length ≤ s.line.queue.length + 1 := by
  unfold State.offerAt
  dsimp only
  split
  · omega
  split
  · simp [State.withQueue]
  split
  · exact le_of_eq (he.length f _)
  split
  · exact le_trans (le_of_eq (he.length f _)) (Nat.add_le_add_right (List.length_filter_le _ _) 1)
  · rw [State.dropped_queue]; omega

theorem State.mem_offer (f : TxFrame) (s : State) (hs : s.silenced = false) (hl : s.line.queue.length < 6) :
    f ∈ (s.offer f).line.queue := State.mem_offerAt enters_tail f s hs hl

theorem State.mem_offer_of_mem (f g : TxFrame) (s : State) (hg : g ∈ s.line.queue) (hk : g.isPublish = false) :
    g ∈ (s.offer f).line.queue := State.mem_offerAt_of_mem enters_tail f g s hg hk

theorem State.length_offer (f : TxFrame) (s : State) : (s.offer f).line.queue.length ≤ s.line.queue.length + 1 :=
  State.length_offerAt enters_tail f s

theorem State.length_offerAll (fs : List TxFrame) (s : State) :
    (s.offerAll fs).line.queue.length ≤ s.line.queue.length + fs.length := by
  induction fs generalizing s with
  | nil => simp
  | cons f fs ih =>
    rw [State.offerAll_cons]
    have h1 := ih (s.offer f)
    have h2 := s.length_offer f
    simp only [List.length_cons]; omega

theorem State.mem_offerAll_of_mem (fs : List TxFrame) (g : TxFrame) (s : State) (hg : g ∈ s.line.queue)
    (hk : g.isPublish = false) : g ∈ (s.offerAll fs).line.queue := by
  induction fs generalizing s with
  | nil => exact hg
  | cons f fs ih => exact ih _ (s.mem_offer_of_mem f g hg hk)

/-- Frames that are no PUBLISH, offered with room for them all, are queued. -/
theorem State.queued_offerAll (fs : List TxFrame) (s : State) (hs : s.silenced = false)
    (hl : s.line.queue.length + fs.length ≤ 6) (hk : ∀ f ∈ fs, f.isPublish = false) : (s.offerAll fs).queued fs := by
  induction fs generalizing s with
  | nil => intro f hf; cases hf
  | cons f fs ih =>
    simp only [List.length_cons] at hl
    rw [State.offerAll_cons]
    intro g hg
    rcases List.mem_cons.mp hg with rfl | hg
    · exact State.mem_offerAll_of_mem fs g _ (s.mem_offer g hs (by omega)) (hk g (by simp))
    · refine ih (s.offer f) (by simp [hs]) ?_ (fun h hh => hk h (by simp [hh])) g hg
      have := s.length_offer f
      omega

/-- No part of a REPLY, CLAIM, REQUEST or STOP is a PUBLISH. -/
theorem replyFrames_not_publish {owner : Producer} {who tag fn : Nat} {res : Result} {why : Reason} {content : List Byte}
    {f : TxFrame} (h : f ∈ replyFrames owner who tag fn res why content) : f.isPublish = false := by
  unfold replyFrames at h
  obtain ⟨p, -, rfl⟩ := List.mem_map.mp h
  rfl

@[simp] theorem claimFrame_not_publish (owner : Producer) (who tag fn kind : Nat) :
    (claimFrame owner who tag fn kind).isPublish = false := rfl

@[simp] theorem requestFrame_not_publish (owner : Producer) (fn tag : Nat) (args : List Byte) :
    (requestFrame owner fn tag args).isPublish = false := rfl

@[simp] theorem stopFrame_not_publish (k : FaultKind) : (stopFrame k).isPublish = false := rfl

/-- A REPLY without content has one part. -/
@[simp] theorem length_replyFrames_nil (owner : Producer) (who tag fn : Nat) (res : Result) (why : Reason) :
    (replyFrames owner who tag fn res why []).length = 1 := rfl

/-! ### The request table -/

theorem State.offerAll_table (fs : List TxFrame) (s : State) : (s.offerAll fs).req.table = s.req.table := by
  induction fs generalizing s with
  | nil => rfl
  | cons f fs ih => rw [State.offerAll_cons, ih, State.offer_table]

/-- R172: a REPLY removes its entry and leaves the others. -/
theorem State.reply_table (e : ReqEntry) (res : Result) (why : Reason) (content : List Byte) (s : State) :
    (s.reply e res why content).req.table = s.req.table.filter (fun x => x.id != e.id) := by
  unfold State.reply State.removeEntry
  simp [State.offerAll_table]

theorem State.reply_queue (e : ReqEntry) (res : Result) (why : Reason) (content : List Byte) (s : State) :
    (s.reply e res why content).line.queue
      = (s.offerAll (replyFrames .requestUnit e.requester e.tag e.fn res why content)).line.queue := rfl

/-- R172: with room for its parts, a REPLY is queued and its entry gone. -/
theorem State.reply_replied (e : ReqEntry) (res : Result) (why : Reason) (s : State) (h : s.hasRoom 1) :
    (s.reply e res why).replied e res why := by
  refine ⟨fun x hx => ?_, ?_⟩
  · rw [State.reply_table] at hx
    simpa using (List.mem_filter.mp hx).2
  · intro f hf
    rw [State.reply_queue]
    exact State.queued_offerAll _ s h.1 (by simpa using h.2) (fun g hg => replyFrames_not_publish hg) f hf

/-! ### The end of an event -/

/-- R160: an event that signalled nothing ends as it is. -/
@[simp] theorem State.finish_of_settled {s : State} (h : s.settled) : s.finish = s := by
  unfold State.finish; rw [if_neg (by simpa [State.settled] using h)]

/-- R160: the end of an event keeps every queued frame that is no PUBLISH. -/
theorem State.mem_finish_of_mem {s : State} {g : TxFrame} (hg : g ∈ s.line.queue) (hk : g.isPublish = false) :
    g ∈ s.finish.line.queue := by
  unfold State.finish State.buildPublish
  split
  · dsimp only
    split
    · exact State.mem_offer_of_mem _ _ _ hg hk
    · exact hg
  · exact hg

/-- R160: the end of an event leaves the request table. -/
@[simp] theorem State.finish_table (s : State) : s.finish.req.table = s.req.table := by
  unfold State.finish State.buildPublish
  split
  · dsimp only
    split
    · exact State.offer_table _ _
    · rfl
  · rfl

/-- R160: an event that signalled queues the PUBLISH of its state, where the node publishes and has room. -/
theorem State.finish_publicationQueued {s : State} (h : s.pub.signal = true) (hp : s.canPublish = true)
    (hs : s.silenced = false) (hl : s.line.queue.length < 6) : ∃ f ∈ s.finish.line.queue, f = s.publishFrame := by
  unfold State.finish
  rw [if_pos h]
  dsimp only
  rw [if_pos hp]
  exact ⟨s.publishFrame, State.mem_offer _ _ hs hl, rfl⟩

theorem State.queued_finish {s : State} {fs : List TxFrame} (h : s.queued fs) (hk : ∀ f ∈ fs, f.isPublish = false) :
    s.finish.queued fs := fun f hf => State.mem_finish_of_mem (h f hf) (hk f hf)

/-- R196: a withdrawal keeps the frames of other producers. -/
theorem State.mem_withdraw {mine : Producer → Bool} {s : State} {g : TxFrame} (hg : g ∈ s.line.queue)
    (hm : mine g.owner = false) : g ∈ (s.withdraw mine).line.queue :=
  List.mem_filter.mpr ⟨hg, by simp [hm]⟩

theorem State.length_withdraw (mine : Producer → Bool) (s : State) :
    (s.withdraw mine).line.queue.length ≤ s.line.queue.length := List.length_filter_le _ _

end Sys2Proof.Machine
end

