-- ==== Sys2Proof/Laws/Handling.lean ====
section
/-! SUPPORT. The path of a REQUEST that the node owns (R163 to R172): the row a held REQUEST is, its CLAIM and entry, and
its REPLY; one lemma for each, so that a statement about a request's effect starts at the block that takes it. -/

namespace Sys2Proof.Machine

/-! ### What an offer, a REPLY and a claim leave -/

theorem State.offer_eq (f : TxFrame) (s : State) : ∃ l r, s.offer f = (s.withLine l).withReq r := by
  rcases s.offerAt_dropped_or_queue enterAtTail f with h | ⟨q, h⟩ <;> rw [State.offer, h]
  · unfold State.dropped State.dropRecord; dsimp only; split
    · exact ⟨_, _, rfl⟩
    · exact ⟨{ s.line with lastError := .txDrop }, s.req, rfl⟩
  · exact ⟨{ s.line with queue := q }, s.req, rfl⟩

@[simp] theorem State.offer_pending (f : TxFrame) (s : State) : (s.offer f).pending = s.pending := by
  obtain ⟨l, r, h⟩ := s.offer_eq f; rw [h]; rfl

@[simp] theorem State.offer_clockUs (f : TxFrame) (s : State) : (s.offer f).clockUs = s.clockUs := by
  obtain ⟨l, r, h⟩ := s.offer_eq f; rw [h]; rfl

@[simp] theorem State.offer_sens (f : TxFrame) (s : State) : (s.offer f).sens = s.sens := by
  obtain ⟨l, r, h⟩ := s.offer_eq f; rw [h]; rfl

@[simp] theorem State.offer_node (f : TxFrame) (s : State) : (s.offer f).node = s.node := by
  obtain ⟨l, r, h⟩ := s.offer_eq f; rw [h]; rfl

@[simp] theorem State.offer_peers (f : TxFrame) (s : State) : (s.offer f).peers = s.peers := by
  obtain ⟨l, r, h⟩ := s.offer_eq f; rw [h]; rfl

@[simp] theorem State.offer_pub (f : TxFrame) (s : State) : (s.offer f).pub = s.pub := by
  obtain ⟨l, r, h⟩ := s.offer_eq f; rw [h]; rfl

@[simp] theorem State.offer_share (f : TxFrame) (s : State) : (s.offer f).share = s.share := by
  obtain ⟨l, r, h⟩ := s.offer_eq f; rw [h]; rfl

@[simp] theorem State.offer_trk (f : TxFrame) (s : State) : (s.offer f).trk = s.trk := by
  obtain ⟨l, r, h⟩ := s.offer_eq f; rw [h]; rfl

@[simp] theorem State.offer_locks (f : TxFrame) (s : State) : (s.offer f).locks = s.locks := by
  obtain ⟨l, r, h⟩ := s.offer_eq f; rw [h]; rfl

@[simp] theorem State.offer_drv (f : TxFrame) (s : State) : (s.offer f).drv = s.drv := by
  obtain ⟨l, r, h⟩ := s.offer_eq f; rw [h]; rfl

@[simp] theorem State.offer_op (f : TxFrame) (s : State) : (s.offer f).op = s.op := by
  obtain ⟨l, r, h⟩ := s.offer_eq f; rw [h]; rfl

@[simp] theorem State.offerAll_pending (fs : List TxFrame) (s : State) : (s.offerAll fs).pending = s.pending := by
  induction fs generalizing s with
  | nil => rfl
  | cons f fs ih => rw [State.offerAll_cons, ih, State.offer_pending]

@[simp] theorem State.offerAll_clockUs (fs : List TxFrame) (s : State) : (s.offerAll fs).clockUs = s.clockUs := by
  induction fs generalizing s with
  | nil => rfl
  | cons f fs ih => rw [State.offerAll_cons, ih, State.offer_clockUs]

@[simp] theorem State.offerAll_sens (fs : List TxFrame) (s : State) : (s.offerAll fs).sens = s.sens := by
  induction fs generalizing s with
  | nil => rfl
  | cons f fs ih => rw [State.offerAll_cons, ih, State.offer_sens]

@[simp] theorem State.offerAll_node (fs : List TxFrame) (s : State) : (s.offerAll fs).node = s.node := by
  induction fs generalizing s with
  | nil => rfl
  | cons f fs ih => rw [State.offerAll_cons, ih, State.offer_node]

@[simp] theorem State.offerAll_peers (fs : List TxFrame) (s : State) : (s.offerAll fs).peers = s.peers := by
  induction fs generalizing s with
  | nil => rfl
  | cons f fs ih => rw [State.offerAll_cons, ih, State.offer_peers]

@[simp] theorem State.offerAll_pub (fs : List TxFrame) (s : State) : (s.offerAll fs).pub = s.pub := by
  induction fs generalizing s with
  | nil => rfl
  | cons f fs ih => rw [State.offerAll_cons, ih, State.offer_pub]

@[simp] theorem State.offerAll_share (fs : List TxFrame) (s : State) : (s.offerAll fs).share = s.share := by
  induction fs generalizing s with
  | nil => rfl
  | cons f fs ih => rw [State.offerAll_cons, ih, State.offer_share]

@[simp] theorem State.offerAll_trk (fs : List TxFrame) (s : State) : (s.offerAll fs).trk = s.trk := by
  induction fs generalizing s with
  | nil => rfl
  | cons f fs ih => rw [State.offerAll_cons, ih, State.offer_trk]

@[simp] theorem State.offerAll_locks (fs : List TxFrame) (s : State) : (s.offerAll fs).locks = s.locks := by
  induction fs generalizing s with
  | nil => rfl
  | cons f fs ih => rw [State.offerAll_cons, ih, State.offer_locks]

@[simp] theorem State.offerAll_drv (fs : List TxFrame) (s : State) : (s.offerAll fs).drv = s.drv := by
  induction fs generalizing s with
  | nil => rfl
  | cons f fs ih => rw [State.offerAll_cons, ih, State.offer_drv]

@[simp] theorem State.offerAll_op (fs : List TxFrame) (s : State) : (s.offerAll fs).op = s.op := by
  induction fs generalizing s with
  | nil => rfl
  | cons f fs ih => rw [State.offerAll_cons, ih, State.offer_op]

@[simp] theorem State.reply_pending (e : ReqEntry) (res : Result) (why : Reason) (c : List Byte) (s : State) :
    (s.reply e res why c).pending = s.pending := by
  simp [State.reply, State.removeEntry]

@[simp] theorem State.reply_clockUs (e : ReqEntry) (res : Result) (why : Reason) (c : List Byte) (s : State) :
    (s.reply e res why c).clockUs = s.clockUs := by
  simp [State.reply, State.removeEntry]

@[simp] theorem State.reply_sens (e : ReqEntry) (res : Result) (why : Reason) (c : List Byte) (s : State) :
    (s.reply e res why c).sens = s.sens := by
  simp [State.reply, State.removeEntry]

@[simp] theorem State.reply_node (e : ReqEntry) (res : Result) (why : Reason) (c : List Byte) (s : State) :
    (s.reply e res why c).node = s.node := by
  simp [State.reply, State.removeEntry]

@[simp] theorem State.reply_peers (e : ReqEntry) (res : Result) (why : Reason) (c : List Byte) (s : State) :
    (s.reply e res why c).peers = s.peers := by
  simp [State.reply, State.removeEntry]

@[simp] theorem State.reply_pub (e : ReqEntry) (res : Result) (why : Reason) (c : List Byte) (s : State) :
    (s.reply e res why c).pub = s.pub := by
  simp [State.reply, State.removeEntry]

@[simp] theorem State.reply_share (e : ReqEntry) (res : Result) (why : Reason) (c : List Byte) (s : State) :
    (s.reply e res why c).share = s.share := by
  simp [State.reply, State.removeEntry]

@[simp] theorem State.reply_trk (e : ReqEntry) (res : Result) (why : Reason) (c : List Byte) (s : State) :
    (s.reply e res why c).trk = s.trk := by
  simp [State.reply, State.removeEntry]

@[simp] theorem State.reply_locks (e : ReqEntry) (res : Result) (why : Reason) (c : List Byte) (s : State) :
    (s.reply e res why c).locks = s.locks := by
  simp [State.reply, State.removeEntry]

@[simp] theorem State.reply_drv (e : ReqEntry) (res : Result) (why : Reason) (c : List Byte) (s : State) :
    (s.reply e res why c).drv = s.drv := by
  simp [State.reply, State.removeEntry]

@[simp] theorem State.reply_op (e : ReqEntry) (res : Result) (why : Reason) (c : List Byte) (s : State) :
    (s.reply e res why c).op = s.op := by
  simp [State.reply, State.removeEntry]

@[simp] theorem State.claimed_pending (r : Request) (s : State) : (s.claimed r).pending = s.pending := by
  simp [State.claimed, State.dropHeld]

@[simp] theorem State.claimed_clockUs (r : Request) (s : State) : (s.claimed r).clockUs = s.clockUs := by
  simp [State.claimed, State.dropHeld]

@[simp] theorem State.claimed_sens (r : Request) (s : State) : (s.claimed r).sens = s.sens := by
  simp [State.claimed, State.dropHeld]

@[simp] theorem State.claimed_node (r : Request) (s : State) : (s.claimed r).node = s.node := by
  simp [State.claimed, State.dropHeld]

@[simp] theorem State.claimed_peers (r : Request) (s : State) : (s.claimed r).peers = s.peers := by
  simp [State.claimed, State.dropHeld]

@[simp] theorem State.claimed_pub (r : Request) (s : State) : (s.claimed r).pub = s.pub := by
  simp [State.claimed, State.dropHeld]

@[simp] theorem State.claimed_share (r : Request) (s : State) : (s.claimed r).share = s.share := by
  simp [State.claimed, State.dropHeld]

@[simp] theorem State.claimed_trk (r : Request) (s : State) : (s.claimed r).trk = s.trk := by
  simp [State.claimed, State.dropHeld]

@[simp] theorem State.claimed_locks (r : Request) (s : State) : (s.claimed r).locks = s.locks := by
  simp [State.claimed, State.dropHeld]

@[simp] theorem State.claimed_drv (r : Request) (s : State) : (s.claimed r).drv = s.drv := by
  simp [State.claimed, State.dropHeld]

@[simp] theorem State.claimed_op (r : Request) (s : State) : (s.claimed r).op = s.op := by
  simp [State.claimed, State.dropHeld]

/-! ### The receiver and the records -/

/-- What an offer leaves of the Line Port: everything but the queue and the last error kind. -/
theorem State.offer_rx (f : TxFrame) (s : State) : Part.rx.same s (s.offer f) := by
  have h : s.via [Part.line, Part.req] (s.offer f) := State.via_offer (State.via_refl _ s) (by simp) (f := f) (by simp)
  exact h.same .rx (by simp)

theorem State.offer_shifter (f : TxFrame) (s : State) : (s.offer f).line.shifter = s.line.shifter := by
  rcases s.offerAt_dropped_or_queue enterAtTail f with h | ⟨q, h⟩ <;> rw [State.offer, h]
  · unfold State.dropped State.dropRecord; dsimp only; split <;> rfl
  · rfl

/-! ### The row of a held REQUEST -/

/-- The function of a row of a REQUEST; none for the rows that more than one function or frame kind can be. -/
def rowFn (i : Instr) : Option Nat :=
  match i with
  | .park => some Fn.park | .resetNode => some Fn.resetNode | .clearFault => some Fn.clearFault
  | .queryPeer => some Fn.queryPeer | .queryNode => some Fn.queryNode | .winchMove => some Fn.winchMove
  | .lower => some Fn.lower | .lift => some Fn.lift | .extend => some Fn.extend | .setDatum => some Fn.setDatum
  | .assertPicture => some Fn.assertPicture | .queryKelly => some Fn.queryKelly | .crowdMove => some Fn.crowdMove
  | .queryCrowd => some Fn.queryCrowd | .rotaryMove => some Fn.rotaryMove | .lock => some Fn.lock
  | .release => some Fn.release | .bore => some Fn.bore | .boreStop => some Fn.boreStop | .spinOff => some Fn.spinOff
  | .queryLocks => some Fn.queryLocks | .toolOpen => some Fn.toolOpen | .toolClose => some Fn.toolClose
  | .toolHold => some Fn.toolHold
  | _ => none

theorem functionRow_fn {fn n : Nat} {row : Instr} (h : functionRow fn = some row) (hn : rowFn row = some n) : fn = n := by
  unfold functionRow at h
  split at h <;> first | (cases h; exact Option.some.inj hn) | cases h

theorem toolRow_fn {fn n : Nat} {row : Instr} (h : toolRow fn = some row) (hn : rowFn row = some n) : fn = n := by
  unfold toolRow at h
  split at h <;> first | (cases h; exact Option.some.inj hn) | cases h

theorem getD_row {o : Option Instr} {row : Instr} {n : Nat} (h : o.getD .undefinedFunction = row)
    (hn : rowFn row = some n) : o = some row := by
  cases o with
  | none => subst h; simp [rowFn] at hn
  | some x => simpa using h

/-- R164, R165: a REQUEST that is the row of a function carries that function. -/
theorem State.requestRow_fn {s : State} {r : Request} {n : Nat} {row : Instr} (h : s.requestRow r = row)
    (hn : rowFn row = some n) : r.fn = n := by
  unfold State.requestRow at h
  split at h
  · split at h
    · subst h; simp [rowFn] at hn
    · split at h <;> subst h <;> simp [rowFn] at hn
  · split at h
    · subst h; simp [rowFn] at hn
    · split at h
      · exact toolRow_fn (getD_row h hn) hn
      · subst h; simp [rowFn] at hn
    · split at h
      · exact functionRow_fn (getD_row h hn) hn
      · subst h; simp [rowFn] at hn

theorem State.rowOf_request {s : State} {f : RxFrame} {r : Request} (h : f.request? = some r) :
    s.rowOf f = s.requestRow r := by
  have hk : f.kind? = some .request := by
    unfold RxFrame.request? at h
    split at h
    · rename_i hc; exact hc.1
    · cases h
  unfold State.rowOf
  rw [hk]
  dsimp only
  rw [h]

/-- The function of a REQUEST whose row is given. -/
theorem State.asks_fn {s : State} {row : Instr} {r : Request} {n : Nat} (h : s.asks row r) (hn : rowFn row = some n) :
    r.fn = n := by
  obtain ⟨f, ⟨rest, -, hrow⟩, hr⟩ := h
  exact State.requestRow_fn ((State.rowOf_request hr).symm.trans hrow) hn

theorem State.headIs_of_heads {s : State} {row : Instr} {f : RxFrame} (h : s.heads row f) : s.headIs row = some f := by
  obtain ⟨rest, hq, hrow⟩ := h
  unfold State.headIs
  rw [hq]
  simp [hrow]

/-- R191: what the handling of the oldest frame answers. -/
theorem handled_of_heads {s : State} {row : Instr} {f : RxFrame} (act : RxFrame → State → State) (h : s.heads row f) :
    handled row act s = .next ((act f s.dropHeld).finish) := by
  unfold handled
  rw [State.headIs_of_heads h]

/-! ### The CLAIM and the entry -/

/-- R168, R169: a REQUEST that the node takes is claimed and entered, and its block acts on that state. -/
theorem State.enterRequest_takes {s : State} {r : Request} {n : Nat} (act : ReqEntry → State → State)
    (h : s.takesRequest r n) :
    s.dropHeld.enterRequest r act = act (r.entry s.req.nextId) (s.claimed r) := by
  obtain ⟨hc, ht, -⟩ := h
  have hc' : s.dropHeld.claims (isStationAddressed r.fn) = true := hc
  unfold State.enterRequest
  rw [if_neg (by simp [hc']), if_neg (by simp [State.dropHeld]; omega)]
  rfl

/-- R171: what the command of a taken REQUEST answers, at the gate. -/
theorem handled_request {s : State} {row : Instr} {r : Request} {n : Nat} (take : ReqEntry → State → State)
    (ha : s.asks row r) (h : s.takesRequest r n) :
    handled row (State.handleRequest take) s = .next (((s.claimed r).gated take (r.entry s.req.nextId)).finish) := by
  obtain ⟨f, hh, hr⟩ := ha
  rw [handled_of_heads _ hh]
  unfold State.handleRequest
  rw [hr]
  dsimp only
  rw [State.enterRequest_takes _ h]

/-- R166, R167: what the command of a taken REQUEST that is not valid at the node answers. -/
theorem handled_refuse {s : State} {row : Instr} {r : Request} {n : Nat} (ha : s.asks row r)
    (h : s.takesRequest r n) :
    handled row State.refuseRequest s = .next (((s.claimed r).reply (r.entry s.req.nextId) .badArgs).finish) := by
  obtain ⟨f, hh, hr⟩ := ha
  rw [handled_of_heads _ hh]
  unfold State.refuseRequest
  rw [hr]
  dsimp only
  rw [State.enterRequest_takes _ h]

/-- R171: a function that its node state takes reaches its block. -/
theorem State.gated_taken {s : State} {e : ReqEntry} {take : ReqEntry → State → State}
    (h : gate s.node.state e.fn = .taken) : s.gated take e = take e s := by
  unfold State.gated; rw [h]

/-- R171: a function that its node state refuses is replied REFUSED_STATE. -/
theorem State.gated_refused {s : State} {e : ReqEntry} {take : ReqEntry → State → State}
    (h : gate s.node.state e.fn = .refused) : s.gated take e = s.reply e .refusedState := by
  unfold State.gated; rw [h]

@[simp] theorem gate_run (fn : Nat) : gate .run fn = .taken := by
  unfold gate; repeat' split
  all_goals first | rfl | simp_all

/-- R169: the table of the state in which a block takes a REQUEST. -/
theorem State.claimed_table (r : Request) (s : State) :
    (s.claimed r).req.table = s.req.table ++ [r.entry s.req.nextId] := by
  unfold State.claimed
  simp [State.offer_table, State.dropHeld]

/-- R169: the CLAIM is queued. -/
theorem State.claimed_queued {s : State} {r : Request} {n : Nat} (h : s.takesRequest r n) (hn : 1 ≤ n) :
    s.claimOfRequest r ∈ (s.claimed r).line.queue := by
  obtain ⟨-, -, hs, hl⟩ := h
  have : s.dropHeld.silenced = false := hs
  exact State.mem_offer _ _ this (by simp [State.dropHeld]; omega)

theorem State.claimed_length (r : Request) (s : State) :
    (s.claimed r).line.queue.length ≤ s.line.queue.length + 1 := State.length_offer _ _

theorem State.claimed_rx {s : State} (r : Request) :
    Part.rx.same s.dropHeld (s.claimed r) := State.offer_rx _ _

/-- R170: no entry of a sound table has the number of the next one. -/
theorem State.fresh_of_sound {s : State} (h : s.sound) : ∀ e ∈ s.req.table, e.id ≠ s.req.nextId := fun e he =>
  Nat.ne_of_lt (h.1.2.1.2.2.1 e he)

/-! ### The REPLY -/

/-- R169, R172: from a state that holds the CLAIM and the entry of a REQUEST, with room for the REPLY, the REPLY
answers it. -/
theorem State.answers_reply {s u : State} {r : Request} {res : Result} {why : Reason} {content : List Byte}
    (hfresh : ∀ e ∈ s.req.table, e.id ≠ s.req.nextId) (ht : u.req.table = s.req.table ++ [r.entry s.req.nextId])
    (hc : s.claimOfRequest r ∈ u.line.queue) (hs : u.silenced = false)
    (hl : u.line.queue.length + (replyFrames .requestUnit r.requester r.tag r.fn res why content).length ≤ 6) :
    s.answers r res why content (u.reply (r.entry s.req.nextId) res why content) := by
  refine ⟨?_, ?_⟩
  · rw [State.reply_table, ht, List.filter_append]
    have h1 : s.req.table.filter (fun x => x.id != (r.entry s.req.nextId).id) = s.req.table :=
      List.filter_eq_self.mpr fun e he => by simpa [Request.entry] using hfresh e he
    rw [h1]
    simp [Request.entry]
  · intro f hf
    rw [State.reply_queue]
    rcases List.mem_cons.mp hf with rfl | hf
    · exact State.mem_offerAll_of_mem _ _ _ hc rfl
    · exact State.queued_offerAll _ u hs hl (fun g hg => replyFrames_not_publish hg) f hf

/-- The end of the event keeps an answer. -/
theorem State.answers_finish {s t : State} {r : Request} {res : Result} {why : Reason} {content : List Byte}
    (h : s.answers r res why content t) : s.answers r res why content t.finish := by
  refine ⟨by rw [State.finish_table]; exact h.1, State.queued_finish h.2 ?_⟩
  intro f hf
  rcases List.mem_cons.mp hf with rfl | hf
  · rfl
  · exact replyFrames_not_publish hf

/-- A REQUEST replied by its block at once, on the state in which the block takes it. -/
theorem State.answers_claimed {s : State} {r : Request} {res : Result} {why : Reason} {content : List Byte}
    (h : s.takesRequest r (1 + (replyFrames .requestUnit r.requester r.tag r.fn res why content).length))
    (hs : s.sound) :
    s.answers r res why content ((s.claimed r).reply (r.entry s.req.nextId) res why content) := by
  refine State.answers_reply (State.fresh_of_sound hs) (State.claimed_table r s) (State.claimed_queued h (by omega)) ?_ ?_
  · have := h.2.2.1
    simpa [State.silenced] using this
  · have h1 := h.2.2.2
    have h2 := State.claimed_length r s
    omega

/-- What a REQUEST replied at once leaves: all but the Line Port and the Request Unit. -/
theorem State.sameBut_claimed_reply (s : State) (r : Request) (res : Result) (why : Reason) (content : List Byte) :
    s.sameBut [.rx, .line, .req] ((s.claimed r).reply (r.entry s.req.nextId) res why content) := by
  refine ⟨by simp, fun p hp => ?_⟩
  cases p <;> simp [Part.same] at hp ⊢

theorem State.settled_claimed_reply {s : State} (h : s.settled) (r : Request) (res : Result) (why : Reason)
    (content : List Byte) : ((s.claimed r).reply (r.entry s.req.nextId) res why content).settled := by
  unfold State.settled at *
  simpa using h

end Sys2Proof.Machine
end

