-- ==== Sys2Proof/Laws/Line.lean ====
section
/-! SUPPORT. The frames that the node sends (R186, R187): the length and the parity of a character, the length of a frame,
and the kind that its code spells. -/

namespace Sys2Proof

@[simp] theorem FrameKind.ofCode_code (k : FrameKind) : FrameKind.ofCode k.code = some k := by cases k <;> rfl

theorem FrameKind.code_lt (k : FrameKind) : k.code < 256 := by cases k <;> decide

namespace Machine

theorem parityOdd_true (data : Byte) : parityOdd data true = !parityOdd data false := by
  simp [parityOdd, List.range_succ]

/-- R186: every character as sent has odd parity. -/
@[simp] theorem parityOdd_parityBit (data : Byte) : parityOdd data (parityBit data) = true := by
  cases h : parityOdd data false <;> simp [parityBit, h, parityOdd_true]

/-- R186: a character is 11 bits. -/
@[simp] theorem characterBits_length (data : Byte) : (characterBits data).length = 11 := by simp [characterBits]

@[simp] theorem natBytes_length (w n : Nat) : (natBytes w n).length = w := by
  induction w with
  | zero => rfl
  | succ w ih => simp [natBytes, ih]

/-- R187: a frame has LEN + 5 characters. -/
@[simp] theorem frameChars_length (kind src : Byte) (payload : List Byte) :
    (frameChars kind src payload).length = payload.length + 5 := by simp [frameChars]

/-- R187: back to back, the characters take 11 bit times each. -/
theorem flatMap_characterBits_length (chars : List Byte) : (chars.flatMap characterBits).length = 11 * chars.length := by
  simp [List.length_flatMap, Nat.mul_comm]

theorem State.lineBits_empty {s : State} (h : s.line.shifter = none) : s.lineBits = [] := by simp [State.lineBits, h]

theorem State.lineBits_shifter {s : State} {f : TxFrame} (h : s.line.shifter = some f) :
    s.lineBits = (s.sentChars f).flatMap characterBits := by simp [State.lineBits, h]

end Machine
end Sys2Proof
end

