-- ==== Sys2Proof/Laws/Sharing.lean ====
section
/-! SUPPORT. Grants (R139 to R141): a grant is at most its figure, the grants of a class together are at most what is
left for it, and a recomputation keeps the own grant within the own published claim. -/

namespace Sys2Proof.Machine

/-- R139: a grant is at most its figure. -/
theorem shareOf_le (rc sum figure : Nat) : shareOf rc sum figure ≤ figure := by
  unfold shareOf
  split
  · exact le_refl _
  · rename_i h
    exact Nat.div_le_of_le_mul (Nat.mul_le_mul_right figure (by omega))

theorem sum_floor_le (rc sum : Nat) (figures : List Nat) :
    (figures.map fun f => rc * f / sum).sum * sum ≤ rc * figures.sum := by
  induction figures with
  | nil => simp
  | cons f fs ih =>
    simp only [List.map_cons, List.sum_cons, Nat.add_mul, Nat.mul_add]
    have := Nat.div_mul_le_self (rc * f) sum
    omega

/-- R139: the grants of a class together are at most what is left for it. -/
theorem sum_shareOf_le (rc : Nat) (figures : List Nat) : (figures.map (shareOf rc figures.sum)).sum ≤ rc := by
  by_cases h : figures.sum ≤ rc
  · have : figures.map (shareOf rc figures.sum) = figures := by
      conv_rhs => rw [← List.map_id figures]
      exact List.map_congr_left fun f _ => by simp [shareOf, h]
    rw [this]; exact h
  · have he : figures.map (shareOf rc figures.sum) = figures.map fun f => rc * f / figures.sum :=
      List.map_congr_left fun f _ => by simp [shareOf, h]
    rw [he]
    have := sum_floor_le rc figures.sum figures
    exact Nat.le_of_mul_le_mul_right this (by omega)

/-- R140: a grant is at most the claim's figure. -/
theorem grantOf_le (cap : Nat) (ps : List Peer) (c : Claim) : grantOf cap ps c ≤ c.kw := by
  unfold grantOf
  split
  · exact Nat.zero_le _
  · exact shareOf_le _ _ _

/-- R148: in an ordered table the entry of a station is the one that bears its number. -/
theorem entryAt_of_mem {ps : List Peer} {p : Peer} (h : peersOrdered ps) (hp : p ∈ ps) :
    entryAt p.station ps = some p := by
  obtain ⟨h, -⟩ := h
  induction ps with
  | nil => cases hp
  | cons q qs ih =>
    obtain ⟨h1, h2⟩ := List.pairwise_cons.mp h
    unfold entryAt
    rcases List.mem_cons.mp hp with rfl | hp
    · simp
    · have := h1 p hp
      rw [List.find?_cons_of_neg (by simp; omega)]
      exact ih hp h2

/-- R140, R141: the own grant is at most the claim of the own entry. -/
theorem ownGrant_le {own cap : Nat} {ps : List Peer} {k : Nat} (h : peersOrdered ps)
    (hk : ∀ p, entryAt own ps = some p → p.claim.kw ≤ k) : ownGrant own cap ps ≤ k := by
  unfold ownGrant
  split
  · rename_i p hf
    have hm := (List.mem_filter.mp (List.mem_of_find?_eq_some hf)).1
    have hs := List.find?_some hf
    simp only [beq_iff_eq] at hs
    exact le_trans (grantOf_le _ _ _) (hk p (hs ▸ entryAt_of_mem h hm))
  · exact Nat.zero_le _

theorem State.judgeGuard_claim (s : State) : s.judgeGuard.share.ownClaim = s.share.ownClaim := by
  unfold State.judgeGuard
  dsimp only
  repeat' split
  all_goals simp

theorem State.judgeGuard_grant (s : State) : s.judgeGuard.share.grant = s.share.grant := by
  unfold State.judgeGuard
  dsimp only
  repeat' split
  all_goals simp

theorem State.judgeGuard_peers (s : State) : s.judgeGuard.peers = s.peers := by
  unfold State.judgeGuard
  dsimp only
  repeat' split
  all_goals simp

theorem State.judgeGuard_station (s : State) : s.judgeGuard.station = s.station := by
  unfold State.judgeGuard State.station
  dsimp only
  repeat' split
  all_goals simp

/-- R141, R142: after a recomputation the own grant is within the own published claim. -/
theorem State.recompute_shareSound {s : State} (ho : peersOrdered s.peers)
    (h : ∀ p, entryAt s.station s.peers = some p → p.claim = s.share.ownClaim) : s.recompute.shareSound := by
  unfold State.recompute
  dsimp only
  refine ⟨fun p hp => ?_, ?_⟩
  · rw [State.judgeGuard_claim]
    rw [State.judgeGuard_station, State.judgeGuard_peers] at hp
    exact h p hp
  · rw [State.judgeGuard_grant, State.judgeGuard_claim]
    show (if _ then 0 else _) ≤ s.share.ownClaim.kw
    split
    · exact Nat.zero_le _
    · exact ownGrant_le ho fun p hp => by rw [h p hp]

end Sys2Proof.Machine
end

