-- ==== Sys2Proof/Laws/Tracker.lean ====
section
/-! SUPPORT. Attribution (R6 to R9): what each of its parts makes of the joint picture, and that it moves the
extensions and the residue together by exactly the change; and the reason of a loss of tracking (R99). -/

namespace Sys2Proof.Machine

/-! ### One joint record replaced -/

theorem Tracker.joint_setJoint {t : Tracker} {j : Nat} (r : JointRec) (hj : 1 ≤ j ∧ j ≤ t.joints.length) (i : Nat)
    (hi : 1 ≤ i) : (t.setJoint j r).joint i = if i = j then r else t.joint i := by
  unfold Tracker.joint Tracker.setJoint
  rw [List.getD_eq_getElem?_getD, List.getElem?_set]
  by_cases h : i = j
  · subst h
    rw [if_pos rfl, if_pos (by omega), if_pos rfl]; rfl
  · rw [if_neg (by omega), if_neg h, List.getD_eq_getElem?_getD]

@[simp] theorem Tracker.length_setJoint (t : Tracker) (j : Nat) (r : JointRec) :
    (t.setJoint j r).joints.length = t.joints.length := by simp [Tracker.setJoint]

@[simp] theorem Tracker.stack_setJoint (t : Tracker) (j : Nat) (r : JointRec) : (t.setJoint j r).stack = t.stack := rfl

theorem sum_map_set {α : Type} (f : α → Nat) (l : List α) (k : Nat) (r d : α) (hk : k < l.length) :
    ((l.set k r).map f).sum + f (l.getD k d) = (l.map f).sum + f r := by
  induction l generalizing k with
  | nil => simp at hk
  | cons a l ih =>
    cases k with
    | zero => simp; omega
    | succ k =>
      have := ih k (by simpa using hk)
      simp only [List.set_cons_succ, List.map_cons, List.sum_cons, List.getD_cons_succ]
      omega

theorem Tracker.extSum_setJoint {t : Tracker} {j : Nat} (r : JointRec) (hj : 1 ≤ j ∧ j ≤ t.joints.length) :
    (t.setJoint j r).extSum + (t.joint j).ext = t.extSum + r.ext :=
  sum_map_set _ t.joints (j - 1) r JointRec.closed (by omega)

/-! ### What a part of an attribution leaves -/

/-- The tracker `u` comes from `t` by moving joints alone: its picture is in order and nothing but joints and stack
differs. -/
structure Tracker.MovedTo (slide : Nat → Nat) (t u : Tracker) : Prop where
  pictured : u.pictured slide
  length : u.joints.length = t.joints.length
  rest : u = { t with joints := u.joints, stack := u.stack }

theorem Tracker.MovedTo.refl {slide : Nat → Nat} {t : Tracker} (h : t.pictured slide) : t.MovedTo slide t := ⟨h, rfl, rfl⟩

theorem Tracker.MovedTo.trans {slide : Nat → Nat} {t u v : Tracker} (h : t.MovedTo slide u) (k : u.MovedTo slide v) :
    t.MovedTo slide v :=
  ⟨k.pictured, k.length.trans h.length, by rw [k.rest, h.rest]⟩

/-- R8: the top joint's extension replaced by another within its slide. -/
theorem Tracker.movedTo_setTop {slide : Nat → Nat} {t : Tracker} {j : Nat} {rest : List Nat} {x : Nat}
    (h : t.pictured slide) (hs : t.stack = j :: rest) (hx : 1 ≤ x ∧ x ≤ slide j) :
    t.MovedTo slide (t.setJoint j { opened := true, ext := x }) := by
  obtain ⟨h1, h2, h3⟩ := h
  have hj := h2 j (by simp [hs])
  refine ⟨⟨h1, fun i hi => ?_, fun i hi hl => ?_⟩, by simp, rfl⟩
  · simpa using h2 i hi
  · rw [Tracker.length_setJoint] at hl
    rw [Tracker.joint_setJoint _ hj i hi, Tracker.stack_setJoint]
    by_cases hij : i = j
    · subst hij; simp [hs, hx.1, hx.2]
    · simpa [hij] using h3 i hi hl

/-- R8: a CLOSED joint opened and pushed. -/
theorem Tracker.movedTo_openJoint {slide : Nat → Nat} {t : Tracker} {j x : Nat} (h : t.pictured slide)
    (hj : 1 ≤ j ∧ j ≤ t.joints.length) (hc : (t.joint j).opened = false) (hx : 1 ≤ x ∧ x ≤ slide j) :
    t.MovedTo slide (t.openJoint j x) := by
  obtain ⟨h1, h2, h3⟩ := h
  have hn : j ∉ t.stack := fun hm => by
    have := (h3 j hj.1 hj.2).1.mpr hm
    rw [hc] at this; cases this
  refine ⟨⟨List.nodup_cons.mpr ⟨hn, h1⟩, fun i hi => ?_, fun i hi hl => ?_⟩, ?_, rfl⟩
  · show 1 ≤ i ∧ i ≤ (t.setJoint j _).joints.length
    rw [Tracker.length_setJoint]
    rcases List.mem_cons.mp hi with rfl | hi
    · exact hj
    · exact h2 i hi
  · have hl' : i ≤ t.joints.length := by
      have : (t.openJoint j x).joints.length = t.joints.length := Tracker.length_setJoint t j _
      omega
    have he : (t.openJoint j x).joint i = if i = j then { opened := true, ext := x } else t.joint i :=
      Tracker.joint_setJoint _ hj i hi
    rw [he]
    show _ ∧ _ ∧ _
    by_cases hij : i = j
    · subst hij; simp [Tracker.openJoint, hx.1, hx.2]
    · simpa [hij, Tracker.openJoint] using h3 i hi hl'
  · exact Tracker.length_setJoint t j _

/-- R9: the top joint closed and popped. -/
theorem Tracker.movedTo_pop {slide : Nat → Nat} {t : Tracker} {j : Nat} {rest : List Nat} (h : t.pictured slide)
    (hs : t.stack = j :: rest) : t.MovedTo slide { (t.setJoint j JointRec.closed) with stack := rest } := by
  obtain ⟨h1, h2, h3⟩ := h
  have hj := h2 j (by simp [hs])
  rw [hs] at h1
  have hn := List.nodup_cons.mp h1
  refine ⟨⟨hn.2, fun i hi => ?_, fun i hi hl => ?_⟩, by simp, rfl⟩
  · show 1 ≤ i ∧ i ≤ (t.setJoint j _).joints.length
    rw [Tracker.length_setJoint]
    exact h2 i (by rw [hs]; exact List.mem_cons_of_mem _ hi)
  · have hl' : i ≤ t.joints.length := by
      have : (t.setJoint j JointRec.closed).joints.length = t.joints.length := Tracker.length_setJoint t j _
      have h' : i ≤ (t.setJoint j JointRec.closed).joints.length := hl
      omega
    have he : Tracker.joint { (t.setJoint j JointRec.closed) with stack := rest } i
        = if i = j then JointRec.closed else t.joint i := Tracker.joint_setJoint _ hj i hi
    rw [he]
    by_cases hij : i = j
    · subst hij; simp [JointRec.closed, hn.1]
    · have := h3 i hi hl'
      rw [hs] at this
      simpa [hij] using this

/-! ### The parts -/

/-- R8, step 1. -/
theorem Tracker.growTop_spec {slide : Nat → Nat} (free : Nat → Bool) (a : Nat) {t : Tracker} (h : t.pictured slide) :
    t.MovedTo slide (t.growTop slide free a).1
      ∧ (t.growTop slide free a).1.extSum + (t.growTop slide free a).2 = t.extSum + a := by
  unfold Tracker.growTop
  split
  · exact ⟨.refl h, rfl⟩
  · rename_i j rest hs
    dsimp only
    split
    · have hj := h.2.1 j (by simp [hs])
      have hx := (h.2.2 j hj.1 hj.2).2.1 ((h.2.2 j hj.1 hj.2).1.mpr (by simp [hs]))
      refine ⟨Tracker.movedTo_setTop h hs (by omega), ?_⟩
      have := Tracker.extSum_setJoint (t := t) { opened := true, ext := (t.joint j).ext + min a (slide j - (t.joint j).ext) } hj
      simp only at this ⊢
      omega
    · exact ⟨.refl h, rfl⟩

/-- R8, step 2. -/
theorem Tracker.growNew_spec {slide : Nat → Nat} (free : Nat → Bool) (n a : Nat) {t : Tracker} (h : t.pictured slide)
    (hslide : ∀ j, 1 ≤ j → j ≤ t.joints.length → 1 ≤ slide j) :
    t.MovedTo slide (t.growNew slide free n a).1
      ∧ (t.growNew slide free n a).1.extSum + (t.growNew slide free n a).2 = t.extSum + a := by
  induction n generalizing a t with
  | zero => exact ⟨.refl h, rfl⟩
  | succ n ih =>
    unfold Tracker.growNew
    split
    · rename_i ha; exact ⟨.refl h, by simp [ha]⟩
    · rename_i ha
      split
      · exact ⟨.refl h, rfl⟩
      · rename_i j hf
        have hm := List.mem_of_find?_eq_some hf
        have hp := List.find?_some hf
        simp only [List.mem_map, List.mem_range] at hm
        obtain ⟨k, hk, rfl⟩ := hm
        simp only [Bool.and_eq_true, Bool.not_eq_true'] at hp
        have hj : 1 ≤ k + 1 ∧ k + 1 ≤ t.joints.length := by omega
        have hsl := hslide (k + 1) hj.1 hj.2
        have hm := Tracker.movedTo_openJoint h hj hp.1 (x := min a (slide (k + 1))) (by omega)
        have hs := Tracker.extSum_setJoint (t := t) { opened := true, ext := min a (slide (k + 1)) } hj
        have h0 := (h.2.2 (k + 1) hj.1 hj.2).2.2 hp.1
        have := ih (a - min a (slide (k + 1))) hm.pictured (fun i hi hl => hslide i hi (by rw [← hm.length]; exact hl))
        refine ⟨hm.trans this.1, ?_⟩
        have he : (t.openJoint (k + 1) (min a (slide (k + 1)))).extSum
          = (t.setJoint (k + 1) { opened := true, ext := min a (slide (k + 1)) }).extSum := rfl
        rw [this.2, he]
        simp only at hs
        omega

/-- R9. -/
theorem Tracker.shrink_spec {slide : Nat → Nat} (free : Nat → Bool) (n a : Nat) {t : Tracker} (h : t.pictured slide) :
    t.MovedTo slide (t.shrink free n a).1
      ∧ (t.shrink free n a).1.extSum + a = t.extSum + (t.shrink free n a).2 := by
  induction n generalizing a t with
  | zero => exact ⟨.refl h, rfl⟩
  | succ n ih =>
    unfold Tracker.shrink
    split
    · rename_i ha; exact ⟨.refl h, by simp [ha]⟩
    · rename_i ha
      split
      · exact ⟨.refl h, rfl⟩
      · rename_i j rest hs
        have hj := h.2.1 j (by simp [hs])
        dsimp only
        split
        · exact ⟨.refl h, rfl⟩
        split
        · rename_i hlt
          have hx := (h.2.2 j hj.1 hj.2).2.1 ((h.2.2 j hj.1 hj.2).1.mpr (by simp [hs]))
          refine ⟨Tracker.movedTo_setTop h hs (by omega), ?_⟩
          have := Tracker.extSum_setJoint (t := t) { opened := true, ext := (t.joint j).ext - a } hj
          simp only at this ⊢
          omega
        · rename_i hlt
          have hm := Tracker.movedTo_pop h hs
          have hsum := Tracker.extSum_setJoint (t := t) JointRec.closed hj
          have := ih (a - (t.joint j).ext) hm.pictured
          refine ⟨hm.trans this.1, ?_⟩
          have he : Tracker.extSum { (t.setJoint j JointRec.closed) with stack := rest }
              = (t.setJoint j JointRec.closed).extSum := rfl
          have h0 : JointRec.closed.ext = 0 := rfl
          have h2 := this.2
          rw [he] at h2
          dsimp only at h2 ⊢
          omega

/-! ### The whole -/

/-- The tracker `u` comes from `t` by moving joints and residue alone. -/
structure Tracker.AttributedTo (slide : Nat → Nat) (t u : Tracker) (c : Int) : Prop where
  pictured : u.pictured slide
  length : u.joints.length = t.joints.length
  sum : (u.extSum : Int) + u.residue = (t.extSum : Int) + t.residue + c
  rest : u = { t with joints := u.joints, stack := u.stack, residue := u.residue }

theorem Tracker.MovedTo.attributedTo {slide : Nat → Nat} {t v : Tracker} (h : t.MovedTo slide v) {r c : Int}
    (hsum : (v.extSum : Int) + r = (t.extSum : Int) + t.residue + c) :
    t.AttributedTo slide { v with residue := r } c :=
  ⟨h.pictured, h.length, hsum, by rw [h.rest]⟩

theorem Tracker.increase_spec {slide : Nat → Nat} (free : Nat → Bool) (a : Nat) {t : Tracker} (h : t.pictured slide)
    (hslide : ∀ j, 1 ≤ j → j ≤ t.joints.length → 1 ≤ slide j) :
    t.AttributedTo slide (t.increase slide free a) a := by
  obtain ⟨u, a1, h1⟩ : ∃ u a1, t.growTop slide free a = (u, a1) := ⟨_, _, rfl⟩
  obtain ⟨v, a2, h2⟩ : ∃ v a2, u.growNew slide free u.joints.length a1 = (v, a2) := ⟨_, _, rfl⟩
  have e1 := Tracker.growTop_spec free a h
  rw [h1] at e1
  have e2 := Tracker.growNew_spec free u.joints.length a1 e1.1.pictured
    (fun j hj hl => hslide j hj (by rw [← e1.1.length]; exact hl))
  rw [h2] at e2
  have he : t.increase slide free a = { v with residue := v.residue + a2 } := by
    unfold Tracker.increase
    rw [h1]
    dsimp only
    rw [h2]
  rw [he]
  have h3 := e1.1.trans e2.1
  refine h3.attributedTo ?_
  have hr := congrArg Tracker.residue h3.rest
  have s1 := e1.2
  have s2 := e2.2
  simp only at hr s1 s2
  omega

theorem Tracker.decrease_spec {slide : Nat → Nat} (free : Nat → Bool) (a : Nat) {t : Tracker} (h : t.pictured slide) :
    t.AttributedTo slide (t.decrease free a) (-(a : Int)) := by
  obtain ⟨u, a1, h1⟩ : ∃ u a1, t.shrink free t.joints.length a = (u, a1) := ⟨_, _, rfl⟩
  have e1 := Tracker.shrink_spec free t.joints.length a h
  rw [h1] at e1
  have he : t.decrease free a = { u with residue := u.residue - a1 } := by
    unfold Tracker.decrease
    rw [h1]
  rw [he]
  refine e1.1.attributedTo ?_
  have hr := congrArg Tracker.residue e1.1.rest
  have s1 := e1.2
  simp only at hr s1
  omega

theorem Tracker.place_spec {slide : Nat → Nat} (free : Nat → Bool) (c : Int) {t : Tracker} (h : t.pictured slide)
    (hslide : ∀ j, 1 ≤ j → j ≤ t.joints.length → 1 ≤ slide j) :
    t.AttributedTo slide (t.place slide free c) c := by
  unfold Tracker.place
  split
  · rename_i hc
    have := Tracker.increase_spec free c.toNat h hslide
    rwa [Int.toNat_of_nonneg hc] at this
  · rename_i hc
    have := Tracker.decrease_spec free (-c).toNat h
    rwa [Int.toNat_of_nonneg (by omega), neg_neg] at this

theorem Tracker.pictured_residue {slide : Nat → Nat} {t : Tracker} (r : Int) (h : t.pictured slide) :
    Tracker.pictured slide { t with residue := r } := h

/-- R6 to R9: an attribution keeps the picture in order, and the extensions and the residue together change by exactly
the change. -/
theorem Tracker.attribute_spec {slide : Nat → Nat} (free : Nat → Bool) (c : Int) {t : Tracker} (h : t.pictured slide)
    (hslide : ∀ j, 1 ≤ j → j ≤ t.joints.length → 1 ≤ slide j) :
    t.AttributedTo slide (t.attribute slide free c) c := by
  unfold Tracker.attribute
  split
  · split
    · refine ⟨h, rfl, ?_, rfl⟩
      show (t.extSum : Int) + (t.residue + c) = _
      omega
    · have := Tracker.place_spec free (c + t.residue) (t := { t with residue := 0 }) (Tracker.pictured_residue 0 h) hslide
      refine ⟨this.pictured, this.length, ?_, ?_⟩
      · have e := this.sum
        have e' : Tracker.extSum { t with residue := 0 } = t.extSum := rfl
        rw [e'] at e
        simp only at e
        omega
      · exact this.rest
  · exact Tracker.place_spec free c h hslide

/-- R2, R11: the cleared picture is in order. -/
theorem Tracker.pictured_cleared (slide : Nat → Nat) (t : Tracker) : t.cleared.pictured slide := by
  refine ⟨List.nodup_nil, by simp [Tracker.cleared], fun j _ _ => ?_⟩
  have : t.cleared.joint j = JointRec.closed := by
    unfold Tracker.joint Tracker.cleared
    rw [List.getD_eq_getElem?_getD, List.getElem?_map]
    cases t.joints[j - 1]? <;> rfl
  rw [this]
  simp [JointRec.closed, Tracker.cleared]

/-! ### The reason of a loss of tracking (R99) -/

/-- A PAY that tracking was lost to by a fault ends with that fault. -/
@[simp] theorem State.lossReason_of_fault {s : State} {k : FaultKind} (h : s.trk.leftBy = some k) :
    s.lossReason = slipReason k := by
  simp [State.lossReason, h]

/-- For any other cause it ends PEER_LOST. -/
@[simp] theorem State.lossReason_of_none {s : State} (h : s.trk.leftBy = none) : s.lossReason = .peerLost := by
  simp [State.lossReason, h]

/-- A suspension is no fault. -/
theorem State.lossReason_suspend (es : Int) (s : State) : (s.suspend es).lossReason = .peerLost := rfl

/-- Outside TRACKING an ACTIVE PAY ends with the reason of the loss, whether or not its room is judged. -/
theorem State.checkPay_of_lost {s : State} {v : Nat} (hm : s.drv.mode = .pay v) (ha : s.drv.state = .active)
    (ht : s.trk.state ≠ .tracking) (judgeRoom : Bool) :
    s.checkPay judgeRoom = s.endMode .failed s.lossReason false := by
  simp [State.checkPay, hm, ha, ht]

end Sys2Proof.Machine
end

