-- ==== Sys2Proof/WellFormed.lean ====
section
/-! DEFINITION. What the operands of a command can be: the ranges of the sensor readings (R197 widths),
the strap codes (R200), stations (R148) and tags (R184). -/

namespace Sys2Proof

/-- R200: the codes the strap pins can hold. -/
def Straps.wf (p : Straps) : Bool := decide (p.station < 16 ∧ p.role < 4 ∧ p.baud < 4)

/-- R197: a signed quantity of `w` bytes. -/
def fitsSigned (w : Nat) (x : Int) : Bool := decide (-(2 ^ (8 * w - 1) : Int) ≤ x ∧ x < 2 ^ (8 * w - 1))

/-- R197: an unsigned quantity of `w` bytes. -/
def fitsUnsigned (w n : Nat) : Bool := decide (n < 2 ^ (8 * w))

/-- A command whose operands the outside can send. -/
def Instr.wf : Instr → Bool
  | .powerOn p | .supplyDip p | .resetLine p => p.wf
  | .ropeEvent p => fitsSigned 3 p
  | .ropeTensionEvent t => fitsUnsigned 2 t
  | .axisSpeedEvent v => fitsSigned 2 v
  | .strokeEvent t => fitsSigned 2 t
  | .crowdForceEvent f => fitsUnsigned 2 f
  | .angleEvent d => decide (d ≠ 0 ∧ -1800 < d ∧ d < 1800)
  | .torqueEvent q => fitsSigned 2 q
  | .agingStep n => decide (1 ≤ n ∧ n ≤ 15)
  | .sendBoundExpiry t | .subRequestSlowWindowEnd t | .startDeadlineExpiry t | .replyDeadlineExpiry t =>
    fitsUnsigned 1 t
  | .listenTimerExpiry | .stopLineAsserted | .stopLineReleased | .kellyHomeActive | .kellyHomeInactive => true
  | .brakeReleaseExpiry | .brakeSetExpiry | .slackTimerExpiry | .stallTimerExpiry | .periodicTimerExpiry => true
  | .publicationWaitExpiry | .fastWindowEnd _ | .defaultSlowWindowEnd _ => true
  | .parkEntryTimerExpiry | .wakeTimerExpiry => true
  | .characterError _ _ _ | .truncated _ | .skipQuietEnd _ | .frameComplete _ | .transmitStart _ => true
  | .arbitrationLost | .readBackFailure | .txComplete => true
  | .publishHandled | .claimHandled | .replyHandled | .stopHandled | .setupHandled | .unknownKindDiscard => true
  | .start | .halt | .park | .resetNode | .clearFault | .queryPeer | .queryNode => true
  | .winchMove | .lower | .lift | .extend | .setDatum | .assertPicture | .queryKelly => true
  | .crowdMove | .queryCrowd | .rotaryMove | .lock | .release | .bore | .boreStop | .spinOff | .queryLocks => true
  | .toolOpen | .toolClose | .toolHold | .undefinedFunction | .unownedRequest => true
  | .characterReceived _ | .noisePulse => true

end Sys2Proof
end

