-- ==== Sys2Proof/Tests/Slice0.lean ====
section
/-! SUPPORT. The model's own tests: each check of WellFormed refuses an ill-formed command; values worked by hand; and
for each statement with hypotheses a concrete state and operands that meet them, at the boundaries of its clauses. -/

namespace Sys2Proof.Tests

open Machine

/-! ### Ill-formed commands -/

theorem test_wf_straps : (Instr.powerOn { station := 16, role := 0, dflt := false, baud := 0 }).wf = false
    ∧ (Instr.supplyDip { station := 1, role := 4, dflt := false, baud := 0 }).wf = false
    ∧ (Instr.resetLine { station := 1, role := 0, dflt := false, baud := 4 }).wf = false
    ∧ (Instr.powerOn { station := 15, role := 3, dflt := true, baud := 3 }).wf = true := by decide

theorem test_wf_readings : (Instr.ropeEvent 8388608).wf = false ∧ (Instr.ropeEvent (-8388608)).wf = true
    ∧ (Instr.ropeTensionEvent 65536).wf = false ∧ (Instr.axisSpeedEvent (-32769)).wf = false
    ∧ (Instr.strokeEvent 32768).wf = false ∧ (Instr.crowdForceEvent 65536).wf = false
    ∧ (Instr.torqueEvent 32768).wf = false ∧ (Instr.torqueEvent 32767).wf = true := by decide

theorem test_wf_angle : (Instr.angleEvent 0).wf = false ∧ (Instr.angleEvent 1800).wf = false
    ∧ (Instr.angleEvent (-1800)).wf = false ∧ (Instr.angleEvent (-1799)).wf = true := by decide

theorem test_wf_station : (Instr.agingStep 0).wf = false ∧ (Instr.agingStep 16).wf = false
    ∧ (Instr.agingStep 15).wf = true := by decide

theorem test_wf_tags : (Instr.sendBoundExpiry 256).wf = false ∧ (Instr.subRequestSlowWindowEnd 256).wf = false
    ∧ (Instr.startDeadlineExpiry 256).wf = false ∧ (Instr.replyDeadlineExpiry 256).wf = false
    ∧ (Instr.replyDeadlineExpiry 255).wf = true := by decide

/-! ### Small states -/

/-- Two joints of 3000 mm with pockets each 1000 mm. -/
def rig : Setup := { Setup.default with joints := [⟨3000, 1000, 50⟩, ⟨3000, 1000, 50⟩] }

/-- Station 2 of a role, committed, in a node state. -/
def nodeOf (role : Nat) (st : NodeState) : State :=
  let s := State.afterReset .powerOn .unknown { station := 2, role := role, dflt := true, baud := 2 } Sensors.reset []
  (s.withNode { s.node with state := st, listen := none, committed := true, setup := rig }).withPub
    { s.pub with timer := some 1000 }

/-- A FRESH entry in RUN. -/
def peerOf (station : Nat) (role : Role) (part : RolePart) : Peer :=
  { station := station, presence := .fresh, role := role, period := 50, age := 0
    snap := { nodeState := 3, driveState := 0, driveMode := 0, faults := 0, cls := 0, tool := 0, kw := 0, cause := 0,
              prior := 0, errRun := 0, lastError := 0, part := part } }

/-- A crowd in RUN at stroke 2000. -/
def crowdPeer : Peer := peerOf 3 .crowd (.crowd { stroke := 2000, force := 0, speed := 0, withheld := 0 })

/-- A rotary in RUN, validity KNOWN, with its lock records as carried. -/
def rotaryPeer (locks : List Nat) : Peer :=
  peerOf 4 .rotary (.rotary { angle := 0, speed := 0, torque := 0, validity := 1, dir := 0, j := 2, locks := locks,
                              evKind := 0, evTravel := 0, evSeq := 0, attempts := 0, stall := 0, opKind := 0,
                              opPhase := 0 })

/-- A winch in RUN, TRACKING, above the datum, with its extensions as carried. -/
def winchPeer (exts : List Nat) : Peer :=
  peerOf 5 .winch (.winch { payout := 0, depth := -100, ext := 0, tracking := 1, slack := 0, residue := 0, j := 2,
                            exts := exts, stack := [], tension := 0, speed := 0, evKind := 0, evAmount := 0,
                            evSeq := 0 })

/-- A winch node TRACKING with both joints CLOSED and FREE, E 0 and the crowd at stroke 2000. -/
def winchIn (st : NodeState) : State :=
  let s := nodeOf 0 st
  (s.withPeers [crowdPeer, rotaryPeer [0, 0, 0, 0, 0]]).withTrk
    { s.trk with joints := [JointRec.closed, JointRec.closed], state := .tracking, ropeOffset := -2000 }

/-- A winch node in RUN. -/
def winch : State := winchIn .run

/-- The same with joint 1 OPEN at 1000 mm. -/
def winchOpen : State :=
  (winch.withTrk { winch.trk with joints := [{ opened := true, ext := 1000 }, JointRec.closed], stack := [1] }).withSens
    { winch.sens with payout := 1000 }

/-- A crowd node in RUN. -/
def crowd : State := (nodeOf 1 .run).withPeers [rotaryPeer [0, 0, 0, 0, 0], winchPeer [0, 0, 0, 0, 0]]

/-- A rotary node in RUN with both joints FREE and validity KNOWN. -/
def rotary : State :=
  let s := nodeOf 2 .run
  (s.withPeers [crowdPeer, winchPeer [0, 0, 0, 0, 0]]).withLocks
    { s.locks with records := [none, none], pocketCounts := [4, 4], known := true }

/-- A table entry of a function, from station 9. -/
def entry (fn : Nat) (st : EntryState) : ReqEntry :=
  { id := 0, requester := 9, tag := 1, fn := fn, qual := 1, args := [], state := st }

/-- The state with one table entry. -/
def withEntry (e : ReqEntry) (s : State) : State := s.withReq { s.req with table := [e], nextId := 1 }

/-- The state with a frame held. -/
def holding (f : RxFrame) (s : State) : State := s.withLine { s.line with hold := [f] }

/-- A frame of a kind from a station. -/
def rx (k : FrameKind) (src : Byte) (payload : List Byte) : RxFrame :=
  { kind := BitVec.ofNat 8 k.code, src := src, payload := payload, waited := 0 }

/-- A REQUEST of station 9 with tag 7. -/
def ask (fn : Nat) (args : List Byte) : RxFrame :=
  rx .request 9 (BitVec.ofNat 8 fn :: BitVec.ofNat 8 (qualifierOf fn) :: 7 :: args)

/-- What it carries. -/
def asked (fn : Nat) (args : List Byte) : Request :=
  { requester := 9, fn := fn, qual := qualifierOf fn, tag := 7, args := args }

/-- The drive active in a mode by table entry 0. -/
def acting (m : Mode) (s : State) : State :=
  withEntry (entry 0x20 .acting)
    (s.withDrv { s.drv with state := .active, mode := m, source := some (.request 0) })

/-- A queued frame that is no PUBLISH. -/
def plain (k : FrameKind) : TxFrame := { kind := k, payload := [], owner := .requestUnit, withdrawn := false }

/-! ### How a concrete state meets a hypothesis -/

theorem heads_of {s : State} {row : Instr} {f : RxFrame} {rest : List RxFrame} (h : s.line.hold = f :: rest)
    (hr : s.rowOf f = row) : s.heads row f := ⟨rest, h, hr⟩

theorem asks_of {s : State} {row : Instr} {f : RxFrame} {r : Request} {rest : List RxFrame}
    (h : s.line.hold = f :: rest) (hr : s.rowOf f = row) (hq : f.request? = some r) : s.asks row r :=
  ⟨f, ⟨rest, h, hr⟩, hq⟩

/-- `State.sound`, as a Bool. -/
def soundB (s : State) : Bool :=
  decide (s.line.queue.length ≤ 6) && decide ((s.line.queue.filter TxFrame.isPublish).length ≤ 1)
    && decide (s.line.queue.Pairwise fun a b => a.kind.rank ≤ b.kind.rank) && decide (s.line.hold.length ≤ 2)
    && decide (s.line.errRun ≤ 255) && decide (s.line.goodRun ≤ 255)
    && decide (s.req.table.length ≤ 4) && decide ((s.req.table.map ReqEntry.id).Nodup)
    && decide (∀ e ∈ s.req.table, e.id < s.req.nextId) && decide (s.req.defaults.length ≤ 8)
    && decide (s.req.tagCtr < 256) && decide (s.peers.Pairwise fun a b => a.station < b.station)
    && decide (∀ p ∈ s.peers, p.presence ≠ .absent) && decide (s.node.heldBc.length ≤ 4)
    && decide (s.pub.signal = false)

theorem sound_of {s : State} (h : soundB s = true) : s.sound := by
  simp only [soundB, Bool.and_eq_true, decide_eq_true_eq] at h
  obtain ⟨⟨⟨⟨⟨⟨⟨⟨⟨⟨⟨⟨⟨⟨a, b⟩, c⟩, d⟩, e⟩, f⟩, g⟩, i⟩, j⟩, k⟩, l⟩, m⟩, n⟩, o⟩, p⟩ := h
  exact ⟨⟨⟨a, b, c, d, e, f⟩, ⟨g, i, j, k, l⟩, ⟨m, n⟩, o⟩, p⟩

/-- `State.takesRequest`, as a Bool. -/
def takesB (s : State) (r : Request) (n : Nat) : Bool :=
  s.claims (isStationAddressed r.fn) && decide (s.req.table.length < 4) && !s.silenced
    && decide (s.line.queue.length + n ≤ 6)

theorem takes_of {s : State} {r : Request} {n : Nat} (h : takesB s r n = true) : s.takesRequest r n := by
  simp only [takesB, Bool.and_eq_true, decide_eq_true_eq, Bool.not_eq_true'] at h
  exact ⟨h.1.1.1, h.1.1.2, h.1.2, h.2⟩

theorem room_of {s : State} {n : Nat} (h : (!s.silenced && decide (s.line.queue.length + n ≤ 6)) = true) :
    s.hasRoom n := by
  simp only [Bool.and_eq_true, decide_eq_true_eq, Bool.not_eq_true'] at h
  exact h

theorem noResets_of {s : State} (h : (s.req.table.all fun e => e.fn != Fn.resetNode) = true) : s.noResetWaits := by
  intro e he
  simpa using List.all_eq_true.mp h e he

/-! ### Values worked by hand -/

theorem test_crc_check_value : crc16 [0x31, 0x32, 0x33, 0x34, 0x35, 0x36, 0x37, 0x38, 0x39] = 0x29B1#16 := by
  decide +kernel

theorem test_parity : parityOdd 0x00 true = true ∧ parityOdd 0x01 true = false ∧ parityOdd 0x07 false = true := by decide

/-- The bits of KIND in the tables of 10.3 and 10.4: a REQUEST's, and a CLAIM's behind its start bit. -/
theorem test_character_bits :
    characterBits 0x40 = [false, false, false, false, false, false, false, true, false, false, true]
      ∧ characterBits 0x20 = [false, false, false, false, false, false, true, false, false, false, true]
      ∧ parityBit 0x60 = true := by decide

theorem test_pockets : (⟨3500, 1000, 50⟩ : JointGeom).pockets = 4
    ∧ (⟨3000, 1000, 50⟩ : JointGeom).alignedPocket 4 1050 = some 1
    ∧ (⟨3000, 1000, 50⟩ : JointGeom).alignedPocket 4 1051 = none := by decide

theorem test_increase_opens_the_lowest_joint :
    (winch.trk.attribute (fun j => (winch.geom j).slide) winch.freeInMirror 3200).stack = [2, 1]
      ∧ (winch.trk.attribute (fun j => (winch.geom j).slide) winch.freeInMirror 3200).joint 2
          = { opened := true, ext := 200 } := by decide

theorem test_decrease_closes_the_top :
    (winchOpen.trk.attribute (fun j => (winch.geom j).slide) winch.freeInMirror (-1000)).stack = [] := by decide

theorem test_shares_are_floored : shareOf 100 150 75 = 50 ∧ shareOf 100 150 76 = 50 ∧ shareOf 150 150 75 = 75 := by decide

theorem test_queue_order : (enterAtTail (plain .claim) [plain .stop, plain .reply, plain .request]).map TxFrame.kind
      = [.stop, .reply, .claim, .request]
    ∧ (enterAtHead (plain .claim) [plain .stop, plain .reply, plain .request]).map TxFrame.kind
      = [.stop, .claim, .reply, .request] := by decide

theorem test_no_word_spells_a_command : decodeTableWord 8 0 = none ∧ State.reset.withFetchWord 8 0 = State.reset := by
  decide

theorem test_reset_listens : State.reset.node.state = .listen ∧ State.reset.pending = [] ∧ State.reset.mayTransmit = false := by
  decide

/-! ### Witnesses: the machine -/

theorem witness_StepRunsTheFrontCommand : ∃ c rest, (winch.withPending [.halt, .start]).pending = c :: rest :=
  ⟨_, _, rfl⟩

theorem witness_StepOnAnEmptyQueueIsOneBitTime : State.reset.pending = [] ∧ winch.pending = [] := by decide

theorem witness_EveryStepKeepsTheStateSound : ∃ t, winch.sound ∧ step winch = .next t := ⟨_, sound_of (by decide), rfl⟩

theorem winch_shareSound : winch.shareSound := by
  refine ⟨fun p h => ?_, by decide⟩
  have hn : entryAt winch.station winch.peers = none := by decide
  rw [hn] at h
  exact absurd h (by simp)

theorem witness_EveryStepKeepsTheGrantWithinTheClaim : ∃ t, winch.sound ∧ winch.shareSound ∧ step winch = .next t :=
  ⟨_, sound_of (by decide), winch_shareSound, rfl⟩

theorem winchOpen_pictured : winchOpen.trk.pictured (fun j => (winchOpen.geom j).slide) := by
  refine ⟨by decide, by decide, fun j h1 h2 => ?_⟩
  have h2' : j ≤ 2 := h2
  have : j = 1 ∨ j = 2 := by omega
  rcases this with rfl | rfl <;> decide

theorem witness_EveryStepKeepsThePictureInOrder :
    ∃ t, winchOpen.sound ∧ winchOpen.pictureSound ∧ winchOpen.role = some .winch ∧ step winchOpen = .next t := by
  refine ⟨_, sound_of (by decide), fun _ => ⟨by decide, by decide, winchOpen_pictured, ?_, by decide⟩, by decide, rfl⟩
  · show (_ : Int) = _ ∧ _ ≤ _
    decide

/-! ### Witnesses: figures and tables -/

theorem witness_CheckValueOfAFrame : (List.replicate 48 (7 : Byte)).length ≤ 48
    ∧ readU [0, 0] ≠ (crc16 [0x28, 2, BitVec.ofNat 8 ([] : List Byte).length]).toNat
    ∧ (let f : TxFrame := { plain .reply with payload := List.replicate 48 7 }
       f.payload.length ≤ 48 ∧ (winch.withLine { winch.line with shifter := some f }).line.shifter = some f) := by
  decide +kernel

theorem witness_GrantsFollowTheClassesWithinClaimAndCapacity : ∃ t, winch.sound ∧ winch.shareSound ∧ step winch = .next t :=
  witness_EveryStepKeepsTheGrantWithinTheClaim

/-- A queue of n CLAIMs behind each other. -/
def queued (n : Nat) (tail : List TxFrame) (s : State) : State :=
  s.withLine { s.line with queue := List.replicate n (plain .claim) ++ tail }

theorem witness_OfferedFramesEnterByClassAndRoom :
    ((queued 2 [plain .publish] winch).bounded ∧ (queued 2 [plain .publish] winch).silenced = false
        ∧ (queued 2 [plain .publish] winch).line.queue.any TxFrame.isPublish = true ∧ (plain .publish).kind = .publish)
      ∧ ((queued 5 [] winch).bounded ∧ (queued 5 [] winch).line.queue.length < 6 ∧ (plain .stop).kind ≠ .publish)
      ∧ ((queued 5 [plain .publish] winch).bounded ∧ (queued 5 [plain .publish] winch).line.queue.length = 6)
      ∧ (queued 6 [] winch).bounded ∧ (queued 6 [] winch).line.queue.length = 6
      ∧ (queued 6 [] winch).line.queue.any TxFrame.isPublish = false :=
  ⟨⟨(sound_of (by decide)).1, by decide⟩, ⟨(sound_of (by decide)).1, by decide⟩, ⟨(sound_of (by decide)).1, by decide⟩,
    (sound_of (by decide)).1, by decide⟩

theorem witness_ResidueIsCancelledFirst :
    ((0 < (50 : Int) ∧ (-50 : Int) < 0) ∧ (50 : Int).natAbs ≤ (-50 : Int).natAbs)
      ∧ ((0 < (51 : Int) ∧ (-50 : Int) < 0) ∧ (-50 : Int).natAbs < (51 : Int).natAbs)
      ∧ ¬((0 < (1 : Int) ∧ (0 : Int) < 0) ∨ ((1 : Int) < 0 ∧ 0 < (0 : Int))) := by decide

theorem witness_IncreasesAndDecreasesMoveTheJointsInOrder :
    winchOpen.trk.pictured (fun j => (winchOpen.geom j).slide) ∧ winchOpen.trk.stack = 1 :: []
      ∧ (winchOpen.trk.stack.head? = some 1 ∧ winchOpen.freeInMirror 1 = true ∧ (winchOpen.trk.joint 1).ext < 3000)
      ∧ ((winchOpen.withPeers [crowdPeer, rotaryPeer [2, 0, 0, 0, 0]]).freeInMirror 1 = false
        ∧ (winchOpen.withPeers [crowdPeer, rotaryPeer [2, 0, 0, 0, 0]]).freeInMirror 2 = true)
      ∧ ((winchOpen.trk.joint 2).opened = false ∧ 2 ≤ winchOpen.trk.joints.length)
      ∧ (winchOpen.withPeers [crowdPeer, rotaryPeer [2, 1, 0, 0, 0]]).freeInMirror 2 = false
      ∧ winch.trk.stack = [] ∧ 999 < (winchOpen.trk.joint 1).ext ∧ (winchOpen.trk.joint 1).ext ≤ 1000 :=
  ⟨winchOpen_pictured, by decide⟩

/-! ### Witnesses: resets, start-up and the stop line -/

/-- A RESET_NODE whose CLAIM is in the shifter. -/
def resetWaiting : State :=
  (withEntry (entry Fn.resetNode .claimed) winch).withLine
    { winch.line with shifter := some (claimFrame (.resetClaim 0) 9 1 Fn.resetNode 0) }

theorem witness_ResetNodeResetsWhenItsClaimCompletes :
    (∃ r, (holding (ask 0x11 [2]) winch).asks .resetNode r ∧ (holding (ask 0x11 [2]) winch).takesRequest r 1
        ∧ (holding (ask 0x11 [2]) winch).noResetWaits ∧ (holding (ask 0x11 [2]) winch).settled ∧ r.args.length = 1)
      ∧ (∃ r, (holding (ask 0x11 [2, 0]) winch).asks .resetNode r ∧ (holding (ask 0x11 [2, 0]) winch).takesRequest r 2
        ∧ (holding (ask 0x11 [2, 0]) winch).noResetWaits ∧ (holding (ask 0x11 [2, 0]) winch).sound ∧ r.args.length ≠ 1)
      ∧ ∃ f e, resetWaiting.line.shifter = some f ∧ f.owner = .resetClaim e.id ∧ e ∈ resetWaiting.req.table
          ∧ e.fn = Fn.resetNode ∧ e.state = .claimed ∧ ∀ g ∈ resetWaiting.line.queue, g.owner ≠ .resetClaim e.id :=
  ⟨⟨asked 0x11 [2], asks_of rfl (by decide) (by decide), takes_of (by decide), noResets_of (by decide), rfl, rfl⟩,
    ⟨asked 0x11 [2, 0], asks_of rfl (by decide) (by decide), takes_of (by decide), noResets_of (by decide),
      sound_of (by decide), by decide⟩,
    ⟨_, entry Fn.resetNode .claimed, rfl, by decide⟩⟩

/-- The node at the end of its listen time, with a station strap and a Peer Table. -/
def listening (station : Nat) (ps : List Peer) : State :=
  (State.afterReset .powerOn .unknown { station := station, role := 0, dflt := false, baud := 2 } Sensors.reset
    []).withPeers ps

theorem witness_ListenTimeEndsInSetupOrFault :
    (listening 2 []).node.state = .listen ∧ (listening 2 []).node.listen.isSome = true
      ∧ (listening 2 []).silenced = false ∧ (listening 2 []).node.faults.strapInvalid = false
      ∧ (listening 2 []).line.queue.length < 6 ∧ (listening 2 []).strapsInvalid = false
      ∧ (listening 2 []).conflictHeld = false ∧ (listening 0 []).strapsInvalid = true
      ∧ (listening 6 [winchPeer []]).strapsInvalid = false ∧ (listening 6 [winchPeer []]).conflictHeld = true
      ∧ (listening 4 [winchPeer []]).conflictHeld = false := by decide

/-- A winch that pulls the stop line and does not sense it yet. -/
def pulling : State := winch.withNode { winch.node with pull := winch.node.pull.put .lockSlip true }

theorem witness_StopLineStopsTheNodeAndReleasesIt :
    winch.sound ∧ winch.sens.stopLine = false ∧ winch.node.state = .run
      ∧ (winchIn .ready).sound ∧ (winchIn .ready).node.state = .ready
      ∧ (winchIn .parked).sound ∧ (winchIn .parked).node.state = .parked
      ∧ (nodeOf 0 .fault).sound ∧ (nodeOf 0 .fault).node.state = .fault
      ∧ ((winchIn .stopped).withSens { Sensors.reset with stopLine := true }).sound
      ∧ ((winchIn .stopped).withSens { Sensors.reset with stopLine := true }).sens.stopLine = true
      ∧ ((winchIn .stopped).withSens { Sensors.reset with stopLine := true }).drivesStopLine = false
      ∧ pulling.sound ∧ pulling.pending = [] ∧ pulling.sens.stopLine = false ∧ pulling.drivesStopLine = true :=
  ⟨sound_of (by decide), by decide, by decide, sound_of (by decide), by decide, sound_of (by decide), by decide,
    sound_of (by decide), by decide, sound_of (by decide), by decide, by decide, sound_of (by decide), by decide⟩

/-! ### Witnesses: sensors -/

/-- No joint is FREE: every change goes to the residue. -/
def winchSeated : State := winchOpen.withPeers [crowdPeer, rotaryPeer [2, 2, 0, 0, 0]]

/-- The residue after a rope event. -/
def residueAfter (p : Int) (s : State) : Int :=
  (s.trk.attribute (fun j => (s.geom j).slide) s.freeInMirror (p - s.sens.payout)).residue

theorem witness_RopeEventAttributesOrFaults :
    winchSeated.role = some .winch ∧ (1050 : Int) ≠ winchSeated.sens.payout ∧ winchSeated.trk.state = .tracking
      ∧ (residueAfter 1050 winchSeated).natAbs ≤ winchSeated.node.setup.slipTol
      ∧ winchSeated.node.setup.slipTol < (residueAfter 1051 winchSeated).natAbs
      ∧ (nodeOf 0 .run).role = some .winch ∧ (nodeOf 0 .run).trk.state ≠ .tracking ∧ (1 : Int) ≠ (nodeOf 0 .run).sens.payout
      ∧ winchSeated.hasRoom 1 :=
  ⟨by decide, by decide, by decide, by decide, by decide, by decide, by decide, by decide, room_of (by decide)⟩

/-- The slack watch in a state, at a tension reading. -/
def slackAt (tension : Nat) (w : SlackWatch) : State :=
  (winch.withSens { winch.sens with tension := tension }).withDrv { winch.drv with slack := w, slackTimer := Timer.ms 1 }

theorem witness_SlackWatchStartsClearsAndRaises :
    (slackAt 30 .clear).role = some .winch ∧ 19 ≠ (slackAt 30 .clear).sens.tension
      ∧ 19 < (slackAt 30 .clear).node.setup.slackTension ∧ (slackAt 30 .clear).node.state = .run
      ∧ (slackAt 30 .clear).drv.slack = .clear ∧ (slackAt 30 .raised).drv.slack ≠ .clear
      ∧ 20 ≠ (slackAt 10 .timing).sens.tension ∧ (slackAt 10 .timing).node.setup.slackTension ≤ 20
      ∧ (slackAt 10 .timing).drv.slack = .timing ∧ (slackAt 10 .raised).drv.slack ≠ .timing
      ∧ (slackAt 10 .timing).drv.slackTimer.isSome = true := by decide

/-- A winch node with a tracking state. -/
def winchAt (x : Tracking) (ps : List Peer) : State := (winch.withTrk { winch.trk with state := x }).withPeers ps

theorem witness_KellyHomeReZerosTheTracker :
    (winch.role = some .winch ∧ winch.sens.home = false ∧ winch.trk.state = .tracking)
      ∧ ((winchAt .suspended [crowdPeer]).trk.state = .suspended
        ∧ (winchAt .suspended [crowdPeer]).strokeAvailable = true)
      ∧ (winchAt .suspended []).strokeAvailable = false
      ∧ ((winchAt .unknown [crowdPeer]).trk.state = .unknown ∧ (winchAt .unknown [crowdPeer]).trk.joints ≠ []
        ∧ (winchAt .unknown [crowdPeer]).bothGood = false ∧ (winchAt .unknown winch.peers).bothGood = true)
      ∧ (nodeOf 0 .setup).trk.joints = [] := by decide

theorem witness_HomeForceAndSpeedTakeTheirReadings :
    ((winch.withSens { winch.sens with home := true }).settled
        ∧ (winch.withSens { winch.sens with home := true }).sens.home = true)
      ∧ (crowd.settled ∧ crowd.role = some .crowd ∧ 5 ≠ crowd.sens.force)
      ∧ (0 : Int) ≠ (rotary.withSens { rotary.sens with speed := 3 }).sens.speed ∧ rotary.role = some .rotary := by
  unfold State.settled; decide

theorem witness_StrokeEventsEndFeedPullAndThrust :
    crowd.role = some .crowd ∧ (500 : Int) ≠ crowd.sens.stroke
      ∧ (acting (.feed 20 (some 500)) crowd).drv.state = .active
      ∧ (acting (.feed 20 (some 500)) crowd).drv.source = some (.request 0)
      ∧ (acting (.feed 20 (some 500)) crowd).entryOf 0 = some (entry 0x20 .acting)
      ∧ (acting (.feed 20 (some 500)) crowd).op = none
      ∧ (acting (.feed 20 (some 500)) crowd).hasRoom 1
      ∧ (acting (.feed (-20) (some 500)) crowd).drv.mode = .feed (-20) (some 500)
      ∧ (acting (.pull 20 none) crowd).drv.mode = .pull 20 none
      ∧ (crowd.node.setup.strokeMax : Int) ≤ 12000 ∧ (0 : Int) ≤ crowd.node.setup.strokeMin
      ∧ (acting (.thrust 50) crowd).drv.mode = .thrust 50 ∧ crowd.drv.state ≠ .active :=
  ⟨by decide, by decide, by decide, by decide, by decide, by decide, room_of (by decide), by decide⟩

/-- A rotary node with its watch OPEN and its travel counts. -/
def turning (dir : Direction) (fwd rev : Nat) : State :=
  rotary.withLocks { rotary.locks with dir := dir, fwd := fwd, rev := rev, watch := true, watchOfTurn := true }

theorem witness_AngleEventsCountTravel :
    rotary.role = some .rotary ∧ (1 : Int) ≠ 0 ∧ (0 : Int) < 1 ∧ (-1 : Int) < 0 ∧ rotary.locks.dir ≠ .forward
      ∧ (turning .forward 32767 0).locks.dir = .forward
      ∧ (∃ t, exec (.axisSpeedEvent 1) rotary = .next t) ∧ (∃ t, exec (.powerOn rotary.node.pins) rotary = .next t)
      ∧ (∃ t, exec (.supplyDip rotary.node.pins) rotary = .next t) ∧ ∃ t, exec (.resetLine rotary.node.pins) rotary = .next t :=
  ⟨by decide, by decide, by decide, by decide, by decide, by decide, ⟨_, rfl⟩, ⟨_, rfl⟩, ⟨_, rfl⟩, ⟨_, rfl⟩⟩

theorem witness_ForwardTravelPastLockAngleIsAMiss :
    (turning .forward 240 0).role = some .rotary ∧ (turning .forward 240 0).locks.watch = true
      ∧ (turning .rest 240 0).locks.dir ≠ .forward ∧ (turning .rest 240 0).locks.watch = true
      ∧ (turning .forward 240 0).locks.dir = .forward
      ∧ (turning .forward 240 0).node.setup.lockAngle < min ((turning .forward 240 0).locks.fwd + (11 : Int).toNat) 32767
      ∧ min ((turning .forward 240 0).locks.fwd + (10 : Int).toNat) 32767 ≤ (turning .forward 240 0).node.setup.lockAngle
      ∧ (acting .lock (turning .forward 240 0)).drv.mode = .lock
      ∧ (acting .lock (turning .forward 240 0)).drv.state = .active
      ∧ (acting .lock (turning .forward 240 0)).locks.watchOfTurn = true
      ∧ (acting .lock (turning .forward 240 0)).entryOf 0 = some (entry 0x20 .acting)
      ∧ (acting .lock (turning .forward 240 0)).hasRoom 1 :=
  ⟨by decide, by decide, by decide, by decide, by decide, by decide, by decide, by decide, by decide, by decide, by decide,
    room_of (by decide)⟩

theorem witness_ReverseTravelPastReleaseAngleFreesEveryJoint :
    rotary.role = some .rotary ∧ (-1 : Int) < 0 ∧ rotary.locks.records ≠ []
      ∧ (turning .reverse 0 200).locks.rev ≤ (turning .reverse 0 200).node.setup.releaseAngle
      ∧ (turning .reverse 0 200).node.setup.releaseAngle < min ((turning .reverse 0 200).locks.rev + (-(-1) : Int).toNat) 32767
      ∧ (turning .reverse 0 201).node.setup.releaseAngle < (turning .reverse 0 201).locks.rev
      ∧ min ((turning .reverse 0 199).locks.rev + (-(-1) : Int).toNat) 32767 ≤ (turning .reverse 0 199).node.setup.releaseAngle := by
  decide

theorem witness_SeatEventsSeatTheAlignedJoints :
    rotary.role = some .rotary ∧ (10 : Int) ≠ rotary.sens.torque
      ∧ (turning .forward 250 0).locks.watch = true ∧ ((turning .forward 250 0).node.setup.seatTorque : Int) ≤ 10
      ∧ (turning .forward 250 0).locks.fwd ≤ (turning .forward 250 0).node.setup.lockAngle
      ∧ (turning .forward 250 0).goodGeometry = true ∧ ((turning .forward 250 0).withPeers []).goodGeometry = false
      ∧ ¬((turning .forward 251 0).locks.fwd ≤ (turning .forward 251 0).node.setup.lockAngle)
      ∧ ¬(((turning .forward 250 0).node.setup.seatTorque : Int) ≤ 9) := by decide

/-! ### Witnesses: timers -/

/-- The drive in a state and a mode with its timer running. -/
def driveIn (d : DriveState) (m : Mode) (pend : Option Mode) (s : State) : State :=
  withEntry (entry 0x20 .acting)
    (s.withDrv { s.drv with state := d, mode := m, pending := pend, timer := Timer.ms 1, source := some (.request 0) })

/-- The crowd stroke sensed. -/
def atStroke (n : Int) (s : State) : State := s.withSens { s.sens with stroke := n }

/-- A winch whose tool stands at a depth. -/
def atDepth (d : Int) (s : State) : State :=
  s.withTrk { s.trk with datumOffset := s.sens.payout - s.trk.ropeOffset - d }

/-- The reverse travel counted. -/
def reversed (n : Nat) (s : State) : State := s.withLocks { s.locks with rev := n }

/-- A direct request's mode, its brake releasing: the premises of the statement, as a Bool. -/
def releasesB (m : Mode) (s : State) : Bool :=
  let t := driveIn .releasing m none s
  t.drv.state == .releasing && t.drv.timer.isSome && t.drv.mode == m && t.drv.source == some (.request 0)
    && (t.entryOf 0 == some (entry 0x20 .acting)) && !t.silenced && decide (t.line.queue.length + 1 ≤ 6)

theorem witness_BrakeReleaseEntersActive :
    (releasesB (.turn 50) rotary && releasesB .lock rotary && releasesB (.bore 20 100) rotary
        && releasesB (.spin 3) rotary) = true
      ∧ (releasesB (.haul 100) (winch.withSens { winch.sens with home := true }) = true
        ∧ releasesB (.haul 100) winchSeated = true ∧ winchSeated.sens.home = false ∧ winchSeated.topSeated = true
        ∧ releasesB (.haul 100) winch = true ∧ winch.sens.home = false ∧ winch.topSeated = false)
      ∧ (releasesB (.pay 100) ((winch.withTrk { winch.trk with state := .unknown })) = true
        ∧ (releasesB (.pay 100) (atDepth 90000 winch) && releasesB (.pay 100) (atDepth 89999 winch)
            && releasesB (.pay 100) winchSeated) = true
        ∧ (atDepth 90000 winch).node.setup.maxDepth ≤ (atDepth 90000 winch).D
        ∧ (atDepth 89999 winch).D < (atDepth 89999 winch).node.setup.maxDepth ∧ (atDepth 89999 winch).room ≠ 0
        ∧ (atDepth 89999 winch).trk.state = .tracking ∧ winchSeated.trk.state = .tracking ∧ winchSeated.room = 0
        ∧ winchSeated.D < winchSeated.node.setup.maxDepth)
      ∧ (releasesB (.float 60) winch = true ∧ winch.op = none)
      ∧ ((releasesB (.feed 20 (some 500)) (atStroke 500 crowd) && releasesB (.feed 20 (some 500)) (atStroke 499 crowd)
            && releasesB (.feed (-20) (some 500)) (atStroke 500 crowd) && releasesB (.feed 20 none) (atStroke 12000 crowd)
            && releasesB (.pull 20 none) (atStroke 0 crowd) && releasesB (.pull 20 none) (atStroke 1 crowd)
            && releasesB (.thrust 50) (atStroke 12000 crowd) && releasesB (.thrust 50) (atStroke 11999 crowd)) = true
        ∧ crowd.node.setup.strokeMin = 0 ∧ crowd.node.setup.strokeMax = 12000)
      ∧ (releasesB .release (reversed 250 rotary) && releasesB .release (reversed 249 rotary)) = true
      ∧ rotary.node.setup.releaseAngle + 50 = 250 := by decide

theorem witness_BrakeSetEntersHeldOrThePendingMode :
    (driveIn .setting .hold none winch).drv.state = .setting ∧ (driveIn .setting .hold none winch).drv.timer.isSome = true
      ∧ (driveIn .setting .hold none winch).drv.pending = none
      ∧ (driveIn .setting .hold none winch).drv.source = some (.request 0)
      ∧ (driveIn .setting .hold none winch).entryOf 0 = some (entry 0x20 .acting)
      ∧ (driveIn .setting .hold none winch).hasRoom 1
      ∧ (driveIn .setting .hold (some (.haul 9)) winch).drv.pending = some (.haul 9) :=
  ⟨by decide, by decide, by decide, by decide, by decide, room_of (by decide), by decide⟩

/-- A stall in a mode, with the attempts counted and the recovery phase. -/
def stalled (m : Mode) (n : Nat) (p : Recovery) (s : State) : State :=
  let t := acting m s
  t.withDrv { t.drv with stall := .timing, stallTimer := Timer.ms 1, attempts := n, recovery := p }

theorem witness_StallExpiryRecoversOrEnds :
    (stalled (.bore 20 100) 2 .boring rotary).drv.stall = .timing
      ∧ (stalled (.bore 20 100) 2 .boring rotary).drv.stallTimer.isSome = true
      ∧ (stalled (.bore 20 100) 2 .boring rotary).drv.state = .active
      ∧ (stalled (.bore 20 100) 2 .boring rotary).drv.source = some (.request 0)
      ∧ (stalled (.bore 20 100) 2 .boring rotary).entryOf 0 = some (entry 0x20 .acting)
      ∧ (stalled (.bore 20 100) 2 .boring rotary).op = none ∧ (stalled (.bore 20 100) 2 .boring rotary).hasRoom 1
      ∧ (stalled (.bore 20 100) 2 .boring rotary).drv.attempts + 1 ≤ rig.stallTries
      ∧ rig.stallTries < (stalled (.bore 20 100) 3 .boring rotary).drv.attempts + 1
      ∧ (stalled (.bore 20 100) 1 .reversing rotary).drv.recovery = .reversing
      ∧ (stalled (.bore 20 100) 1 .restarting rotary).boreLock = true
      ∧ ((stalled (.bore 20 100) 1 .restarting rotary).withPeers []).boreLock = false
      ∧ (stalled (.spin 3) 0 .boring rotary).drv.mode = .spin 3 :=
  ⟨by decide, by decide, by decide, by decide, by decide, by decide, room_of (by decide), by decide⟩

theorem witness_PeriodicExpiryPublishesTheState :
    winch.pub.timer.isSome = true ∧ winch.canPublish = true ∧ (queued 5 [] winch).line.queue.length < 6
      ∧ (queued 5 [plain .publish] winch).publishQueued = true
      ∧ ((nodeOf 0 .listen).pub.timer.isSome = true ∧ (nodeOf 0 .listen).canPublish = false) := by decide

/-- The state that a command answers. -/
def after (i : Instr) (s : State) : State :=
  match exec i s with
  | .next t => t
  | _ => State.reset

/-- The entry of a station with a presence and an age. -/
def agedTo (n : Nat) (x : Presence) (age : Nat) (s : State) : State :=
  s.withPeers (s.peers.map fun p => if p.station = n then { p with presence := x, age := age } else p)

/-- A station's entry is past the age at which its aging step occurs: the premise of the statement, as a Bool. -/
def passedB (n : Nat) (s : State) : Bool :=
  (entryAt n s.peers).any fun p => (p.presence == .fresh && decide (2 * p.period < p.age))
    || (p.presence == .aged && decide (s.node.setup.lostMult * p.period < p.age))

theorem witness_AgingStepsLowerThePresence :
    (crowdPeer.period = 50 ∧ winch.node.setup.lostMult = 6 ∧ passedB 3 (agedTo 3 .fresh 101 winch) = true
        ∧ passedB 3 (agedTo 3 .fresh 100 winch) = false ∧ passedB 3 (agedTo 3 .aged 301 winch) = true
        ∧ passedB 3 (agedTo 3 .aged 300 winch) = false ∧ passedB 3 (agedTo 3 .lost 1000 winch) = false)
      ∧ winch.settled ∧ entryAt 9 winch.peers = none
      ∧ (let moved := fun x : Tracking => after (.agingStep 3) (agedTo 3 .fresh 101 (winchAt x winch.peers))
         let stale := fun x : Tracking => agedTo 4 .aged 301 (winchAt x winch.peers)
         (moved .tracking).bothGood = true ∧ (after (.agingStep 4) (stale .tracking)).bothGood = false
          ∧ (moved .suspended).bothGood = true ∧ (after (.agingStep 4) (stale .suspended)).bothGood = false
          ∧ (winchAt .unknown winch.peers).trk.state = .unknown ∧ winch.role = some .winch)
      ∧ (let thrusting := agedTo 4 .aged 301 (acting (.thrust 50) crowd)
         thrusting.op = none ∧ thrusting.drv.mode = .thrust 50 ∧ thrusting.permission = true
          ∧ (after (.agingStep 4) thrusting).permission = false
          ∧ (after (.agingStep 4) thrusting).node.state = .run) := by
  unfold State.settled; decide +kernel

/-- A sub-request entry with tag 5. -/
def sub (what : SubReq) (claim : ClaimStatus) : SubEntry :=
  { what := what, tag := 5, sent := true, claimant := if claim = .unclaimed then none else some 6, claim := claim,
    reply := none, startStatus := if what.continuing then .waiting else .notNeeded, sendBound := Timer.ms 1,
    sendExpired := false, slow := Timer.ms 1, deadline := Timer.ms 1 }

/-- A LIFT under way with one sub-request and its publication wait running. -/
def lifting (e : SubEntry) : State :=
  (withEntry (entry Fn.lift .waitingPeers) winch).withOp
    (some { spec := .lift (-500), requester := 9, tag := 1, entry := 0, phase := .prepare, corr := 0, subs := [e],
            pubWait := Timer.ms 1, pubFrom := 0, lastMiss := false })

theorem runsFor_lifting (e : SubEntry) : ∃ o, (lifting e).runsFor o (entry Fn.lift .waitingPeers) ∧ o.subs = [e]
    ∧ o.pubWait.isSome = true ∧ (lifting e).op = some o :=
  ⟨_, ⟨rfl, rfl, room_of (by rfl)⟩, rfl, rfl, rfl⟩

theorem witness_SubRequestTimersEndTheOperation :
    (∃ o, (lifting (sub .release .unclaimed)).runsFor o (entry Fn.lift .waitingPeers) ∧ o.pubWait.isSome = true)
      ∧ (lifting (sub .release .unclaimed)).subWith 5 = some (sub .release .unclaimed)
      ∧ (sub .release .unclaimed).sendBound.isSome = true
      ∧ (lifting (sub .release .unclaimed)).requestInShifter 5 = false
      ∧ ((lifting (sub .release .unclaimed)).withLine
          { winch.line with shifter := some (requestFrame (.subRequest 5 .rotary) 0 5 []) }).requestInShifter 5 = true
      ∧ (sub .release .unclaimed).slow.isSome = true ∧ (sub .release .default).claim = .default
      ∧ (sub .release .positive).claim = .positive
      ∧ ((sub .crowdHold .positive).what.continuing = true ∧ (sub .crowdHold .positive).startStatus = .waiting)
      ∧ (sub .release .positive).what.continuing = false :=
  ⟨let ⟨o, h, _, h2, _⟩ := runsFor_lifting (sub .release .unclaimed); ⟨o, h, h2⟩, by decide⟩

/-- An EXTEND in TENSIONING, its drive releasing toward FLOAT, with a target extension. -/
def tensioning (x : Nat) : State :=
  ((driveIn .releasing (.float 60) none winch).withOp
    (some { spec := .extend 1 1 x, requester := 9, tag := 1, entry := 0, phase := .tensioning, corr := 0, subs := [],
            pubWait := none, pubFrom := 0, lastMiss := false }))

/-- A LIFT whose HAUL is releasing. -/
def haulingOut : State :=
  let s := lifting (sub .release .positive)
  s.withDrv { s.drv with state := .releasing, mode := .haul 9, timer := Timer.ms 1, source := some .operation }

theorem witness_BrakeReleaseInAnOperation :
    (∃ o, (tensioning 2001).runsFor o (entry 0x20 .acting) ∧ o.spec = .extend 1 1 2001 ∧ o.phase = .tensioning)
      ∧ (tensioning 2001).strokeInUse - ((2001 : Int) - (tensioning 2001).targetExt 1) < (tensioning 2001).node.setup.strokeMin
      ∧ ¬(tensioning 2000).strokeInUse - ((2000 : Int) - (tensioning 2000).targetExt 1)
          < (tensioning 2000).node.setup.strokeMin
      ∧ (tensioning 2001).drv.state = .releasing ∧ (tensioning 2001).drv.mode = .float 60
      ∧ (∃ o, haulingOut.runsFor o (entry Fn.lift .waitingPeers)) ∧ haulingOut.drv.source = some .operation
      ∧ haulingOut.drv.state = .releasing ∧ haulingOut.drv.timer.isSome = true :=
  ⟨⟨_, ⟨rfl, rfl, room_of (by rfl)⟩, rfl, rfl⟩, by decide, by decide, by decide, by decide,
    ⟨_, rfl, rfl, room_of (by rfl)⟩, by decide, by decide, by decide⟩

/-- A parked node in a park state, with the PARK under way. -/
def parking (p : ParkState) (interrupted : Bool) : State :=
  withEntry (entry Fn.park .acting)
    (winch.withNode { winch.node with state := .parked, park := p, parkTimer := Timer.ms 1, interrupted := interrupted })

theorem witness_ParkTimersSettleAndWake :
    (parking .entering false).node.parkTimer.isSome = true ∧ (parking .entering false).node.park = .entering
      ∧ (parking .entering false).parkEntry = some (entry Fn.park .acting) ∧ (parking .entering false).hasRoom 1
      ∧ (parking .entering false).node.interrupted = false ∧ (parking .entering true).node.interrupted = true
      ∧ (parking .waking false).node.park = .waking ∧ (parking .waking false).node.heldBc = []
      ∧ ∀ e ∈ (parking .waking false).req.table, e.state ≠ .claimed :=
  ⟨by decide, by decide, by decide, room_of (by decide), by decide⟩


/-! ### Witnesses: the rig line -/

/-- The receiver in a state with characters taken and a quiet time. -/
def receiving (x : RxState) (chars : List Byte) (quiet : Nat) (s : State) : State :=
  s.withLine { s.line with rx := x, chars := chars, quiet := quiet }

theorem witness_CharactersJoinTheFrame :
    winch.receives = true ∧ winch.settled ∧ winch.noResetWaits ∧ winch.line.rx = .hunting
      ∧ (receiving .skipping [] 3 winch).line.rx = .skipping
      ∧ ((receiving .inFrame [0x40, 9] 0 winch).line.chars.length = 2 ∧ 48 < (49 : Byte).toNat ∧ (48 : Byte).toNat ≤ 48
        ∧ (receiving .inFrame [0x40, 9] 0 winch).lastCharacter = false)
      ∧ (receiving .inFrame [0x08, 9, 1, 7, 0x12] 0 winch).line.chars.length ≠ 2
      ∧ (receiving .inFrame [0x08, 9, 1, 7] 0 winch).lastCharacter = false :=
  ⟨by decide, rfl, noResets_of (by decide), by decide⟩

/-- The line with a count of errors in a row. -/
def erring (n : Nat) (x : LineState) : State := winch.withLine { winch.line with errRun := n, state := x }

theorem witness_CharacterErrorsSkipTheFrame :
    (erring 15 .normal).receives = true ∧ (erring 15 .normal).settled ∧ (erring 15 .normal).noResetWaits
      ∧ parityOdd 0x03 false = false ∧ parityOdd 0x03 true = true ∧ (erring 15 .normal).line.rx ≠ .skipping
      ∧ (erring 15 .normal).line.errRun = 15 ∧ (erring 15 .normal).line.state = .normal
      ∧ (erring 14 .normal).line.errRun ≠ 15 ∧ (erring 15 .listenOnly).line.state ≠ .normal
      ∧ (receiving .skipping [] 0 winch).line.rx = .skipping :=
  ⟨by decide, rfl, noResets_of (by decide), by decide⟩

theorem witness_QuietEndsTheReceiversStates :
    (receiving .inFrame [0x40] 12 winch).receives = true ∧ (receiving .inFrame [0x40] 12 winch).settled
      ∧ (receiving .inFrame [0x40] 12 winch).noResetWaits
      ∧ (receiving .inFrame [0x40] 12 winch).line.rx = .inFrame
      ∧ 22 < (receiving .inFrame [0x40] 12 winch).line.quiet + 11
      ∧ (receiving .skipping [] 4 winch).line.rx = .skipping ∧ 10 ≤ (receiving .skipping [] 4 winch).line.quiet + 6 :=
  ⟨by decide, rfl, noResets_of (by decide), by decide⟩

/-- A START of station 9, or one with the node's own number, all but its last character. -/
def almost (src : Byte) : List Byte := (frameChars 0x40 src [0x01, 3, 7]).dropLast

/-- Its last character. -/
def lastOf (src : Byte) : Byte := (frameChars 0x40 src [0x01, 3, 7]).getLastD 0

theorem witness_FramesCompleteOrFailTheirCheck :
    (receiving .inFrame (almost 9) 0 winch).receives = true ∧ (receiving .inFrame (almost 9) 0 winch).settled
      ∧ (receiving .inFrame (almost 9) 0 winch).noResetWaits
      ∧ (receiving .inFrame (almost 9) 0 winch).line.rx = .inFrame
      ∧ (receiving .inFrame (almost 9) 0 winch).lastCharacter = true
      ∧ frameOfChars (almost 9 ++ [lastOf 9 + 1]) = none
      ∧ frameOfChars (almost 9 ++ [lastOf 9]) = some (rx .request 9 [0x01, 3, 7])
      ∧ winch.ownSource (rx .request 9 [0x01, 3, 7]) = false ∧ winch.line.hold.length < 2
      ∧ 2 ≤ (winch.withLine { winch.line with hold := [ask 0 [], ask 1 []] }).line.hold.length
      ∧ frameOfChars (almost 2 ++ [lastOf 2]) = some (rx .request 2 [0x01, 3, 7])
      ∧ winch.ownSource (rx .request 2 [0x01, 3, 7]) = true :=
  ⟨by decide, rfl, noResets_of (by decide), by decide +kernel⟩

/-- A STOP at the head of the queue, the line quiet. -/
def toSend (quiet : Nat) : State := winch.withLine { winch.line with queue := [plain .stop, plain .reply], quiet := quiet }

theorem witness_TransmissionStartsAfterTheQuietGap :
    (toSend 3).settled ∧ (toSend 3).line.queue = plain .stop :: [plain .reply] ∧ (toSend 3).line.shifter = none
      ∧ (toSend 3).line.rx = .hunting ∧ (toSend 3).mayTransmit = true
      ∧ (plain .stop).kind.gap ≤ (toSend 3).line.quiet + ((plain .stop).kind.gap - 3)
      ∧ (toSend 3).line.quiet + ((plain .stop).kind.gap - 4) < (plain .stop).kind.gap
      ∧ winch.line.queue = [] ∧ (nodeOf 0 .listen).mayTransmit = false := by
  unfold State.settled; decide

/-- The node with a frame of its own in the shifter. -/
def sending (f : TxFrame) (s : State) : State := s.withLine { s.line with shifter := some f }

/-- A CLAIM of station 2 as sent, its check value worked by hand with R188; its 9 characters take the 99 bit times of the
worked example of 10.4. -/
theorem test_claim_as_sent :
    (let f := claimFrame .requestUnit 1 7 0x4F 0
     rotary.sentChars f = [0x20, 2, 4, 1, 7, 0x4F, 0, 0x73, 0xA8] ∧ (sending f rotary).lineBits.length = 99)
      ∧ rotary.lineBits = [] := by decide +kernel

theorem witness_LostFramesReturnToTheHeadOfTheirClass :
    (sending (plain .claim) winch).line.shifter = some (plain .claim) ∧ (sending (plain .claim) winch).settled
      ∧ (sending (plain .claim) winch).noResetWaits ∧ (sending (plain .claim) winch).sendRanOut (plain .claim) = false
      ∧ ({ plain .claim with withdrawn := true } : TxFrame).withdrawn = true ∧ (plain .claim).withdrawn = false
      ∧ (plain .claim).kind ≠ .publish ∧ (plain .claim).owner.record = none
      ∧ (claimFrame (.defaultClaim 3) 9 7 0x30 1).owner.record ≠ none
      ∧ (sending (plain .claim) (queued 5 [] winch)).hasRoom 1 ∧ (sending (plain .claim) (queued 5 [] winch)).bounded
      ∧ (plain .publish).kind = .publish ∧ (queued 4 [plain .publish] winch).publishQueued = true
      ∧ (queued 4 [plain .publish] winch).line.queue.length < 6 ∧ (queued 5 [] winch).publishQueued = false
      ∧ winch.silenced = false ∧ winch.canPublish = true ∧ winch.node.faults.lineFault = false :=
  ⟨rfl, rfl, noResets_of (by decide), by decide, by decide, by decide, by decide, by decide, by decide,
    room_of (by decide), (sound_of (by decide)).1, by decide⟩

theorem witness_CompletedPublishFillsTheOwnEntry :
    (sending winch.publishFrame winch).line.shifter = some winch.publishFrame
      ∧ (sending winch.publishFrame winch).noResetWaits ∧ winch.publishFrame.owner = .publication 1
      ∧ (readPublication winch.publishFrame.payload).isSome = true ∧ winch.silenced = false :=
  ⟨rfl, noResets_of (by decide), rfl, by decide +kernel⟩

/-- The clauses of an error counted and of a good frame counted, at their boundary runs. -/
theorem witness_RunsCountedAtTheirEnds :
    (let s := receiving .inFrame [0x40, 9] 0 (erring 15 .normal)
     s.receives = true ∧ s.settled ∧ s.noResetWaits ∧ s.line.rx = .inFrame ∧ s.line.chars.length = 2
      ∧ s.line.errRun = 15 ∧ s.line.state = .normal ∧ 22 < s.line.quiet + 23)
      ∧ (let s := receiving .inFrame (almost 9) 0 (erring 15 .normal)
         s.receives = true ∧ s.settled ∧ s.noResetWaits ∧ s.lastCharacter = true ∧ s.line.errRun = 15
          ∧ s.line.state = .normal)
      ∧ (let s := receiving .inFrame (almost 9) 0 (winch.withLine { winch.line with goodRun := 7, state := .listenOnly })
         s.receives = true ∧ s.settled ∧ s.noResetWaits ∧ s.lastCharacter = true ∧ s.line.goodRun = 7
          ∧ s.line.state = .listenOnly) :=
  ⟨⟨by decide, rfl, noResets_of (by decide), by decide⟩, ⟨by decide, rfl, noResets_of (by decide), by decide⟩,
    ⟨by decide, rfl, noResets_of (by decide), by decide⟩⟩

/-- A POSITIVE CLAIM, a DEFAULT CLAIM of station 1, a REPLY DONE, a DEFAULT CLAIM of station 9 and a REPLY NO_OWNER: the
first three settle the records of requester 9 and tag 1, the others do not. -/
theorem witness_FramesSettleDefaultRecords :
    winch.settledBy (rx .claim 3 [9, 1, 0x30, 0]) 9 1 ∧ winch.settledBy (rx .claim 1 [9, 1, 0x30, 1]) 9 1
      ∧ winch.settledBy (rx .reply 3 [9, 1, 0x30, 0, 0, 0]) 9 1
      ∧ (∀ who tag, ¬winch.settledBy (rx .claim 9 [9, 1, 0x30, 1]) who tag)
      ∧ (∀ who tag, ¬winch.settledBy (rx .reply 3 [9, 1, 0x30, 7, 0, 0]) who tag)
      ∧ winch.ownSource (rx .claim 3 [9, 1, 0x30, 0]) = false := by
  refine ⟨Or.inl ⟨_, rfl, rfl, rfl, by decide⟩, Or.inl ⟨_, rfl, rfl, rfl, by decide⟩,
    Or.inr ⟨_, rfl, rfl, rfl, by decide⟩, fun who tag h => ?_, fun who tag h => ?_, by decide⟩
  · rcases h with ⟨c, hc, _, _, hk⟩ | ⟨r, hr, _⟩
    · obtain rfl : _ = c := Option.some.inj hc
      exact absurd hk (by decide)
    · have : (rx .claim 9 [9, 1, 0x30, 1]).reply? = none := by decide
      exact absurd (this.symm.trans hr) nofun
  · rcases h with ⟨c, hc, _⟩ | ⟨r, hr, _, _, hk⟩
    · have : (rx .reply 3 [9, 1, 0x30, 7, 0, 0]).claim? = none := by decide
      exact absurd (this.symm.trans hc) nofun
    · obtain rfl : _ = r := Option.some.inj hr
      exact absurd hk (by decide)

/-- A default claimant with n records. -/
def defaulter (n : Nat) (status : DefaultStatus) : State :=
  winch.withReq { winch.req with
    defaults := (List.range n).map fun i =>
      { id := i, requester := 9, tag := i, fn := 0x30, fast := Timer.ms 1, slow := Timer.ms 2, status := status }
    nextId := n }

/-- A shifter's frame of each producer whose completion the statement tells. -/
theorem witness_CompletedFramesOfSubRequestsAndRecords :
    (let f := requestFrame (.subRequest 5 .rotary) Fn.release 5 []
     let s := sending f (lifting (sub .release .unclaimed))
     s.line.shifter = some f ∧ s.noResetWaits ∧ f.owner = .subRequest 5 .rotary ∧ f.withdrawn = false
      ∧ ({ f with withdrawn := true } : TxFrame).withdrawn = true ∧ (sending { f with withdrawn := true } winch).hasRoom 1
      ∧ (sending { f with withdrawn := true } winch).noResetWaits
      ∧ s.subWith 5 = some (sub .release .unclaimed))
      ∧ (let f := claimFrame (.defaultClaim 0) 9 0 0x30 1
         let s := sending f (defaulter 1 .claimQueued)
         s.line.shifter = some f ∧ s.noResetWaits ∧ f.owner = .defaultClaim 0 ∧ s.hasRoom 1
          ∧ ((s.recordOf 0).map DefaultRec.status) = some .claimQueued)
      ∧ ∃ f ∈ replyFrames (.defaultReply 0) 9 0 0x30 .noOwner .noReason [],
          (sending f (defaulter 1 .replyQueued)).line.shifter = some f ∧ f.owner = .defaultReply 0
            ∧ (sending f (defaulter 1 .replyQueued)).noResetWaits :=
  ⟨⟨rfl, noResets_of (by decide), rfl, rfl, rfl, room_of (by decide), noResets_of (by decide), rfl⟩,
    ⟨rfl, noResets_of (by decide), rfl, room_of (by decide), rfl⟩, _, List.mem_cons_self, rfl, rfl,
    noResets_of (by decide)⟩

/-! ### Witnesses: frames handled -/

/-- A crowd's PUBLISH, as another node builds it. -/
def packPublish (src : Byte) : RxFrame := rx .publish src (crowd.commonPart ++ crowd.crowdPart)

/-- The PUBLISH of a crowd at a stroke. -/
def crowdPublish (stroke : Int) : RxFrame :=
  let s := atStroke stroke crowd
  rx .publish 3 (s.commonPart ++ s.crowdPart)

/-- The PUBLISH of a winch node. -/
def winchPublish (src : Byte) : RxFrame := rx .publish src (winch.commonPart ++ winch.winchPart)

/-- A frame is a publication that the node accepts. -/
def acceptsFrameB (s : State) (f : RxFrame) : Bool :=
  decide ((holding f s).rowOf f = .publishHandled) && ((holding f s).acceptable f).isSome

/-- The node after the publication. -/
def heard (f : RxFrame) (s : State) : State := after .publishHandled (holding f s)

/-- The residue after the publication of a crowd at a stroke. -/
def residueHeard (stroke : Int) (s : State) : Int :=
  (s.trk.attribute (fun j => (s.geom j).slide) (heard (crowdPublish stroke) s).freeInMirror
    (s.strokeInUse - stroke)).residue

theorem witness_AcceptedPublicationsFillTheirEntry :
    (holding (packPublish 15) winch).heads .publishHandled (packPublish 15)
      ∧ ((holding (packPublish 15) winch).acceptable (packPublish 15)).isSome = true
      ∧ (holding (packPublish 2) winch).heads .publishHandled (packPublish 2)
      ∧ (holding (packPublish 2) winch).acceptable (packPublish 2) = none
      ∧ (holding (packPublish 0) winch).acceptable (packPublish 0) = none
      ∧ (holding (packPublish 16) winch).acceptable (packPublish 16) = none
      ∧ (holding (packPublish 2) winch).settled :=
  ⟨heads_of rfl (by decide +kernel), by decide +kernel, heads_of rfl (by decide +kernel), by decide +kernel,
    by decide +kernel, by decide +kernel, rfl⟩

theorem witness_HandedOnToTheTracker :
    ((acceptsFrameB winchSeated (crowdPublish 1950) && acceptsFrameB winchSeated (crowdPublish 1949)) = true
        ∧ (heard (crowdPublish 1950) winchSeated).bothGood = true ∧ (residueHeard 1950 winchSeated).natAbs = 50
        ∧ (heard (crowdPublish 1949) winchSeated).bothGood = true ∧ (residueHeard 1949 winchSeated).natAbs = 51
        ∧ winchSeated.node.setup.slipTol = 50)
      ∧ ((heard (crowdPublish 1950) (winchAt .suspended winch.peers)).bothGood = true
        ∧ (winchAt .suspended winch.peers).trk.es = 0 ∧ (winchAt .suspended winch.peers).strokeInUse = 2000
        ∧ (winchAt .suspended winch.peers).trk.residue = 0 ∧ (winchAt .suspended winch.peers).E = 0)
      ∧ (let s := (winchAt .unknown [rotaryPeer [0, 0, 0, 0, 0]]).withSens { winch.sens with home := true }
         s.strokeAvailable = false ∧ s.sens.home = true ∧ s.trk.joints ≠ []
          ∧ (heard (crowdPublish 1950) s).strokeAvailable = true)
      ∧ (winchAt .unknown winch.peers).strokeAvailable = true := by decide +kernel

theorem witness_HandedOnToTheRole :
    (acceptsFrameB winch (winchPublish 1) && acceptsFrameB winch (winchPublish 5)) = true
      ∧ winch.station = 2 ∧ winch.node.state ≠ .listen
      ∧ ((winch.acceptable (winchPublish 1)).map Publication.role) = winch.role
      ∧ ((nodeOf 0 .listen).acceptable (winchPublish 1)).isSome = true := by decide +kernel

/-- A CLAIM of a station, of a kind, for the node's sub-request of tag 5. -/
def claimFrom (src kind : Byte) : RxFrame := rx .claim src [2, 5, 0x42, kind]

theorem witness_ClaimsAreFollowedByTheLowestPositiveClaimant :
    let s := holding (claimFrom 5 0) (lifting (sub .release .positive))
    s.heads .claimHandled (claimFrom 5 0)
      ∧ (claimFrom 5 0).claim? = some { src := 5, requester := 2, tag := 5, fn := 0x42, kind := 0 } ∧ s.settled
      ∧ s.subWith 5 = some (sub .release .positive) ∧ (sub .release .positive).claimant = some 6
      ∧ ((claimFrom 6 0).claim?.map ClaimFrame.src) = some 6 ∧ s.station = 2
      ∧ ((claimFrom 5 1).claim?.map ClaimFrame.kind) = some 1 ∧ (sub .release .unclaimed).claim = .unclaimed
      ∧ (sub .crowdHold .positive).what.continuing = true
      ∧ ((rx .claim 5 [3, 5, 0x42, 0]).claim?.map ClaimFrame.requester) = some 3 :=
  ⟨heads_of rfl (by decide), by decide, rfl, by decide⟩

/-- A REPLY of a station to the node's sub-request of tag 5. -/
def replyFrom (src : Byte) (res why : Byte) : RxFrame := rx .reply src [2, 5, 0x42, res, why, 0]

theorem witness_RepliesEndTheOperation :
    let s := holding (replyFrom 6 8 12) (lifting (sub .release .positive))
    (s.heads .replyHandled (replyFrom 6 8 12) ∧ s.subWith 5 = some (sub .release .positive)
        ∧ (replyFrom 6 8 12).reply? = some { src := 6, requester := 2, tag := 5, fn := 0x42, result := 8, reason := 12,
                                             content := [] }
        ∧ s.station = 2 ∧ (∃ o, s.runsFor o (entry Fn.lift .waitingPeers)) ∧ (sub .release .positive).claim = .positive
        ∧ (sub .release .positive).claimant = some 6 ∧ s.settled)
      ∧ ((replyFrom 6 8 9).reply?.map ReplyFrame.result) = some Result.failed.code
      ∧ ((replyFrom 6 6 0).reply?.map ReplyFrame.result) = some Result.aborted.code
      ∧ ((replyFrom 6 5 0).reply?.map ReplyFrame.result) = some Result.superseded.code
      ∧ ((replyFrom 6 0 0).reply?.map ReplyFrame.result) = some Result.done.code
      ∧ (sub (.thrust 20) .positive).what = .thrust 20 ∧ (sub (.winchFloat 20) .positive).what = .winchFloat 20
      ∧ ((replyFrom 7 8 0).reply?.map ReplyFrame.src) = some 7
      ∧ ((rx .reply 6 [3, 5, 0x42, 8, 0, 0]).reply?.map ReplyFrame.requester) = some 3 ∧ s.subWith 6 = none :=
  ⟨⟨heads_of rfl (by decide), by decide, by decide, by decide, ⟨_, rfl, rfl, room_of (by rfl)⟩, by decide, by decide,
    rfl⟩, by decide⟩

theorem witness_StopNoticesAreKeptAndUnknownKindsDiscarded :
    (holding (rx .stop 9 [7]) winch).settled ∧ (holding (rx .stop 9 [7]) winch).heads .stopHandled (rx .stop 9 [7])
      ∧ (rx .stop 9 [7]).stop? = some (9, 7)
      ∧ (holding { kind := 0x11, src := 9, payload := [], waited := 0 } winch).heads .unknownKindDiscard
          { kind := 0x11, src := 9, payload := [], waited := 0 } :=
  ⟨rfl, heads_of rfl (by decide), by decide, heads_of rfl (by decide)⟩

/-- A SETUP frame with the items PUB_PERIOD 60 and an unknown code. -/
def setupFrame : RxFrame := rx .setup 9 [0x10, 0, 0, 0, 60, 0x7E, 0, 0, 0, 1]

theorem witness_SetupRecordsStoreTheirValues :
    (holding setupFrame (nodeOf 0 .setup)).heads .setupHandled setupFrame
      ∧ setupFrame.setup? = some [⟨0x10, 0, 60⟩, ⟨0x7E, 0, 1⟩] ∧ (holding setupFrame (nodeOf 0 .setup)).settled
      ∧ (nodeOf 0 .setup).node.state = .setup ∧ (∀ r ∈ [ItemRecord.mk 0x10 0 60, ⟨0x7E, 0, 1⟩], r.code ≠ 0x7F)
      ∧ (itemSpec 0x10 0).isSome = true ∧ (itemSpec 0x7E 0).isSome = false ∧ winch.node.state ≠ .setup
      ∧ (holding setupFrame winch).heads .setupHandled setupFrame :=
  ⟨heads_of rfl (by decide), by decide, rfl, by decide, by decide, by decide, by decide, by decide,
    heads_of rfl (by decide)⟩

/-- A COMMIT. -/
def commitFrame : RxFrame := rx .setup 9 [0x7F, 0, 0, 0, 0]

/-- The items of a kelly of one joint. -/
def oneJoint : List ((Nat × Nat) × Int) := [((1, 0), 2), ((2, 1), 1000), ((3, 1), 500), ((4, 1), 10)]

/-- A node in SETUP with a setup table. -/
def tabled (role : Nat) (items : List ((Nat × Nat) × Int)) : State :=
  holding commitFrame ((nodeOf role .setup).withNode { (nodeOf role .setup).node with items := items })

theorem witness_CommitPutsTheItemsInForceOrFails :
    (tabled 0 oneJoint).heads .setupHandled commitFrame ∧ commitFrame.setup? = some [⟨0x7F, 0, 0⟩]
      ∧ (tabled 0 oneJoint).node.state = .setup
      ∧ commitFailure { (tabled 0 oneJoint).node with items := storeItem (0x7F, 0) 0 oneJoint } = none
      ∧ commitFailure { (tabled 0 []).node with items := storeItem (0x7F, 0) 0 [] }
          = some { code := 1, index := 0, cause := .missing }
      ∧ (tabled 0 oneJoint).role = some .winch ∧ (tabled 2 oneJoint).role = some .rotary :=
  ⟨heads_of rfl (by decide), by decide, by decide, by decide +kernel, by decide +kernel, by decide⟩

/-- A broadcast of station 9. -/
def broadcast (fn : Byte) : RxFrame := rx .request 9 [fn, BitVec.ofNat 8 qualBroadcast, 7]

/-- A parked node with broadcasts held. -/
def parkedWith (n : Nat) : State :=
  winch.withNode { winch.node with
    state := .parked, park := .settled, heldBc := List.replicate n { what := .halt, after := 0 } }

theorem witness_StartAndHaltActByNodeState :
    ((holding (broadcast 1) (winchIn .ready)).sound ∧ (holding (broadcast 1) (winchIn .ready)).heads .start (broadcast 1)
        ∧ (winchIn .ready).node.state = .ready)
      ∧ ((holding (broadcast 1) (parkedWith 3)).sound ∧ (holding (broadcast 1) (parkedWith 3)).heads .start (broadcast 1)
        ∧ (parkedWith 3).node.state = .parked ∧ (parkedWith 3).node.heldBc.length < 4)
      ∧ ((holding (broadcast 2) winch).sound ∧ (holding (broadcast 2) winch).heads .halt (broadcast 2)
        ∧ winch.node.state = .run)
      ∧ (holding (broadcast 2) (parkedWith 3)).heads .halt (broadcast 2)
      ∧ (holding (broadcast 2) (winchIn .stopped)).heads .halt (broadcast 2) ∧ (winchIn .stopped).node.state = .stopped :=
  ⟨⟨sound_of (by decide), heads_of rfl (by decide), rfl⟩,
    ⟨sound_of (by decide), heads_of rfl (by decide), by decide, by decide⟩,
    ⟨sound_of (by decide), heads_of rfl (by decide), rfl⟩, heads_of rfl (by decide), heads_of rfl (by decide), by decide⟩

theorem witness_BroadcastsAreHeldOrEmptyTheTable :
    ((holding (broadcast 1) (parkedWith 4)).sound ∧ (holding (broadcast 1) (parkedWith 4)).heads .start (broadcast 1)
        ∧ 4 ≤ (parkedWith 4).node.heldBc.length)
      ∧ ((holding (broadcast 2) (parking .entering false)).sound
        ∧ (holding (broadcast 2) (parking .entering false)).heads .halt (broadcast 2)
        ∧ (parking .entering false).node.state = .parked ∧ (parking .entering false).node.park = .entering)
      ∧ ((holding (broadcast 2) (parking .waking false)).sound
        ∧ (holding (broadcast 2) (parking .waking false)).heads .halt (broadcast 2)
        ∧ (parking .waking false).node.park = .waking)
      ∧ (parkedWith 3).node.park = .settled
      ∧ (let s := holding (broadcast 2) (lifting (sub .release .positive))
         s.sound ∧ s.heads .halt (broadcast 2) ∧ s.node.state = .run ∧ s.op ≠ none ∧ s.sens.stopLine = false
          ∧ s.req.table.filter ReqEntry.emptied = [entry Fn.lift .waitingPeers] ∧ s.hasRoom 1) :=
  ⟨⟨sound_of (by decide), heads_of rfl (by decide), by decide⟩,
    ⟨sound_of (by decide), heads_of rfl (by decide), by decide⟩,
    ⟨sound_of (by decide), heads_of rfl (by decide), by decide⟩, by decide,
    sound_of (by decide), heads_of rfl (by decide), by decide, by decide, by decide, by decide, room_of (by decide)⟩

/-! ### Witnesses: requests -/

/-- A node asked a function in a state meets the premises of a request's statement. -/
def meets (s : State) (row : Instr) (fn : Nat) (args : List Byte) (n : Nat) : Prop :=
  (holding (ask fn args) s).asks row (asked fn args) ∧ (holding (ask fn args) s).takesRequest (asked fn args) n
    ∧ (holding (ask fn args) s).sound

/-- `meets`, as a Bool. -/
def meetsB (s : State) (row : Instr) (fn : Nat) (args : List Byte) (n : Nat) : Bool :=
  decide ((holding (ask fn args) s).rowOf (ask fn args) = row) && decide ((ask fn args).request? = some (asked fn args))
    && takesB (holding (ask fn args) s) (asked fn args) n && soundB (holding (ask fn args) s)

theorem meets_of {s : State} {row : Instr} {fn : Nat} {args : List Byte} {n : Nat}
    (h : meetsB s row fn args n = true) : meets s row fn args n := by
  simp only [meetsB, Bool.and_eq_true, decide_eq_true_eq] at h
  exact ⟨asks_of rfl h.1.1.1 h.1.1.2, takes_of h.1.2, sound_of h.2⟩

theorem witness_NodeStateRefusesOrHoldsFunctions :
    meets (winchIn .ready) .winchMove 0x20 [0] 2 ∧ meets (winchIn .stopped) .lift 0x22 [0, 0, 0] 2
      ∧ meets (nodeOf 0 .setup) .setDatum 0x24 [0, 0, 0] 2 ∧ meets (parkedWith 0) .lower 0x21 [0, 0, 9] 2
      ∧ (parkedWith 0).node.park = .settled ∧ meets (parking .entering false) .setDatum 0x24 [0, 0, 0] 2
      ∧ (parking .entering false).node.park = .entering :=
  ⟨meets_of (by decide +kernel), meets_of (by decide +kernel), meets_of (by decide +kernel), meets_of (by decide +kernel),
    by decide, meets_of (by decide +kernel), by decide⟩

/-- A table of four entries. -/
def full (s : State) : State :=
  s.withReq { s.req with
    table := [0, 1, 2, 3].map (fun i => { entry 0x20 .acting with id := i }), nextId := 4 }

theorem witness_RequestsAreIgnoredBusyOrBadArgs :
    meets winch .undefinedFunction 0x26 [] 2
      ∧ ((holding (ask 0x20 [0]) (full winch)).sound ∧ (holding (ask 0x20 [0]) (full winch)).noResetWaits
        ∧ (holding (ask 0x20 [0]) (full winch)).asks .winchMove (asked 0x20 [0]) ∧ .winchMove ∈ requestRows
        ∧ (full winch).claims (isStationAddressed 0x20) = true ∧ 4 ≤ (full winch).req.table.length
        ∧ (holding (ask 0x20 [0]) (full winch)).hasRoom 2)
      ∧ (holding (ask 0x20 [0]) (nodeOf 0 .fault)).asks .winchMove (asked 0x20 [0])
      ∧ (nodeOf 0 .fault).claims (isStationAddressed 0x20) = false
      ∧ (nodeOf 0 .fault).claims (isStationAddressed 0x12) = true :=
  ⟨meets_of (by decide +kernel),
    ⟨sound_of (by decide), noResets_of (by decide), asks_of rfl (by decide) (by decide), by decide, by decide, by decide,
      room_of (by decide)⟩, asks_of rfl (by decide) (by decide), by decide⟩

theorem witness_DefaultClaimantWatchesClaimsAndDrops :
    (holding (ask 0x30 [0]) (defaulter 7 .watching)).heads .unownedRequest (ask 0x30 [0])
      ∧ (ask 0x30 [0]).request? = some (asked 0x30 [0]) ∧ (holding (ask 0x30 [0]) (defaulter 7 .watching)).settled
      ∧ (defaulter 7 .watching).node.straps.dflt = true ∧ (defaulter 7 .watching).claims true = true
      ∧ (asked 0x30 [0]).qual ≠ qualBroadcast ∧ (defaulter 7 .watching).req.defaults.length < 8
      ∧ (holding (broadcast 5) winch).heads .unownedRequest (broadcast 5)
      ∧ ((broadcast 5).request?.map Request.qual) = some qualBroadcast
      ∧ (defaulter 7 .watching).recordOf 6
          = some { id := 6, requester := 9, tag := 6, fn := 0x30, fast := Timer.ms 1, slow := Timer.ms 2,
                   status := .watching }
      ∧ ((defaulter 1 .claimQueued).recordOf 0).map DefaultRec.status = some .claimQueued
      ∧ ((holding (ask 0x30 [0]) (defaulter 8 .watching)).heads .unownedRequest (ask 0x30 [0])
        ∧ ∃ r0 rest, (defaulter 8 .watching).req.defaults = r0 :: rest ∧ rest.length = 7)
      ∧ (defaulter 7 .watching).hasRoom 1 :=
  ⟨heads_of rfl (by decide), by decide, rfl, by decide, by decide, by decide, by decide, heads_of rfl (by decide),
    by decide, by decide, by decide, ⟨heads_of rfl (by decide), _, _, rfl, rfl⟩, room_of (by decide)⟩

/-- The frames that a query's answer takes. -/
def answerFrames (row : Instr) (fn : Nat) (args : List Byte) (s : State) : Nat :=
  1 + (replyFrames .requestUnit 9 7 fn .done .noReason
    ((queryContent row ((holding (ask fn args) s).claimed (asked fn args)) args).getD [])).length

theorem witness_QueriesAnswerTheirRecord :
    meets winch .queryKelly 0x2F [] (answerFrames .queryKelly 0x2F [] winch)
      ∧ meets crowd .queryCrowd 0x3F [] (answerFrames .queryCrowd 0x3F [] crowd)
      ∧ meets rotary .queryLocks 0x4F [] (answerFrames .queryLocks 0x4F [] rotary)
      ∧ meets winch .queryPeer 0x13 [2, 15] (answerFrames .queryPeer 0x13 [2, 15] winch)
      ∧ meets winch .queryNode 0x14 [2] (answerFrames .queryNode 0x14 [2] winch)
      ∧ queryContent .queryPeer winch [2, 16] = none ∧ meets winch .queryPeer 0x13 [2, 16] 2
      ∧ (queryContent .queryPeer winch [2, 15]).isSome = true :=
  ⟨meets_of (by decide +kernel), meets_of (by decide +kernel), meets_of (by decide +kernel), meets_of (by decide +kernel),
    meets_of (by decide +kernel), by decide +kernel, meets_of (by decide +kernel), by decide +kernel⟩

theorem witness_ClearFaultRemovesWhatIsGone :
    meets winch .clearFault 0x12 [2] 2 ∧ winch.node.state ≠ .fault ∧ (asked 0x12 [2]).args.length = 1
      ∧ meets (nodeOf 0 .fault) .clearFault 0x12 [2] 2 ∧ (nodeOf 0 .fault).node.state = .fault
      ∧ meets winch .clearFault 0x12 [2, 0] 2 ∧ (asked 0x12 [2, 0]).args.length ≠ 1 :=
  ⟨meets_of (by decide +kernel), by decide, by decide, meets_of (by decide +kernel), by decide,
    meets_of (by decide +kernel), by decide⟩

theorem witness_ParkBeginsTheEntryOfAnIdleNode :
    (meets winch .park 0x10 [2] 2 ∧ winch.node.state = .run ∧ winch.req.table = [] ∧ winch.op = none
        ∧ winch.drv.state = .held)
      ∧ (meets (acting (.haul 9) winch) .park 0x10 [2] 2 ∧ (acting (.haul 9) winch).drv.state ≠ .held)
      ∧ meets (winchIn .stopped) .park 0x10 [2] 2 ∧ meets (nodeOf 0 .fault) .park 0x10 [2] 2
      ∧ (meets (parkedWith 0) .park 0x10 [2] 2 ∧ (parkedWith 0).node.park = .settled)
      ∧ (meets (parking .waking false) .park 0x10 [2] 2 ∧ (parking .waking false).node.park ≠ .settled)
      ∧ meets winch .park 0x10 [2, 0] 2 :=
  ⟨⟨meets_of (by decide +kernel), by decide⟩, ⟨meets_of (by decide +kernel), by decide⟩, meets_of (by decide +kernel),
    meets_of (by decide +kernel), ⟨meets_of (by decide +kernel), by decide⟩, ⟨meets_of (by decide +kernel), by decide⟩,
    meets_of (by decide +kernel)⟩

/-- A motion request that is accepted: its premises in a state. -/
def acceptsB (s : State) (row : Instr) (fn : Nat) (args : List Byte) (m : Mode) (n : Nat := 1) : Bool :=
  meetsB s row fn args n && decide (s.node.state = .run)
    && decide (modeAsked row s.node.setup args = some m) && decide (m ≠ .hold)
    && decide ((holding (ask fn args) s).interlock m = none)

/-- The drive in a state, its mode the operation's. -/
def driveAt (d : DriveState) (s : State) : State := s.withDrv { s.drv with state := d, source := none }

theorem witness_AcceptedMotionIsTakenByTheDrive :
    acceptsB winch .winchMove 0x20 [2, 0x02, 0x58] (.pay 600) = true
      ∧ acceptsB winch .winchMove 0x20 [1, 0x00, 0x01] (.haul 1) = true
      ∧ acceptsB (driveAt .releasing winch) .winchMove 0x20 [2, 0, 9] (.pay 9) = true
      ∧ (acceptsB (driveAt .active winch) .winchMove 0x20 [2, 0, 9] (.pay 9) = true ∧ (Mode.pay 9).endsAtEntry = false)
      ∧ acceptsB (driveAt .setting winch) .winchMove 0x20 [2, 0, 9] (.pay 9) = true
      ∧ acceptsB crowd .crowdMove 0x30 [4, 0, 20, 0xFF, 0xFF] (.feed 20 none) = true
      ∧ acceptsB rotary .rotaryMove 0x40 [8, 0x01, 0xF4] (.turn 500) = true
      ∧ acceptsB rotary .lock 0x41 [] .lock = true ∧ acceptsB rotary .release 0x42 [] .release = true
      ∧ (winch.op = none ∧ (driveAt .active winch).drv.sourceEntry = none)
      ∧ (acceptsB (acting (.haul 9) winch) .winchMove 0x20 [2, 0, 9] (.pay 9) 2 = true
        ∧ (acting (.haul 9) winch).drv.source = some (.request 0) ∧ (acting (.haul 9) winch).op = none
        ∧ (acting (.haul 9) winch).entryOf 0 = some (entry 0x20 .acting))
      ∧ acceptsB (lifting (sub .release .positive)) .winchMove 0x20 [2, 0, 9] (.pay 9) 3 = true
      ∧ (lifting (sub .release .positive)).drv.sourceEntry = none := by
  decide +kernel

theorem witness_MotionSupersedesAnOperation :
    ∃ o, (lifting (sub .release .positive)).runsFor o (entry Fn.lift .waitingPeers) ∧ o.subs.length = 1 :=
  ⟨_, ⟨rfl, rfl, room_of (by rfl)⟩, rfl⟩

theorem witness_RefusedMotionAndOperationsChangeNothing :
    (meets winch .winchMove 0x20 [2, 0x02, 0x59] 2 ∧ modeAsked .winchMove winch.node.setup [2, 0x02, 0x59] = none)
      ∧ (meets (winchAt .unknown []) .winchMove 0x20 [2, 0, 9] 2
        ∧ (holding (ask 0x20 [2, 0, 9]) (winchAt .unknown [])).interlock (.pay 9) = some .noReason)
      ∧ (meets winch .lower 0x21 [0, 0] 2 ∧ (holding (ask 0x21 [0, 0]) winch).operationAsked .lower [0, 0] = none)
      ∧ (meets winch .lift 0x22 [0, 0x07, 0xD0] 2 ∧ winch.D = 2000
        ∧ (holding (ask 0x22 [0, 0x07, 0xD0]) winch).operationAsked .lift [0, 0x07, 0xD0] = none)
      ∧ (meets rotary .bore 0x43 [] 2 ∧ (holding (ask 0x43 []) rotary).operationAsked .bore [] = none)
      ∧ meets rotary .spinOff 0x45 [11] 2 ∧ readCycles [11] = none := by
  refine ⟨⟨meets_of (by decide +kernel), by decide⟩, ⟨meets_of (by decide +kernel), by decide⟩,
    ⟨meets_of (by decide +kernel), by decide⟩, ⟨meets_of (by decide +kernel), by decide, by decide⟩,
    ⟨meets_of (by decide +kernel), by decide⟩, meets_of (by decide +kernel), by decide⟩

theorem witness_HoldRequestsSetTheBrake :
    (meets winch .winchMove 0x20 [0] 2 ∧ winch.node.state = .run ∧ winch.op = none ∧ winch.drv.sourceEntry = none
        ∧ winch.drv.state = .held ∧ modeAsked .winchMove winch.node.setup [0] = some .hold)
      ∧ (meets (driveAt .active crowd) .crowdMove 0x30 [0] 2 ∧ (driveAt .active crowd).drv.state ≠ .held)
      ∧ (let s := winch.withDrv { winch.drv with state := .setting, source := some .operation }
         meets s .winchMove 0x20 [0] 2 ∧ s.op = none ∧ s.drv.sourceEntry = none ∧ s.drv.state ≠ .held)
      ∧ meets (acting (.turn 9) rotary) .rotaryMove 0x40 [0] 2
      ∧ (acting (.turn 9) rotary).drv.source = some (.request 0)
      ∧ (acting (.turn 9) rotary).entryOf 0 = some (entry 0x20 .acting)
      ∧ meets (lifting (sub .release .positive)) .winchMove 0x20 [0] (3 + 1)
      ∧ (lifting (sub .release .positive)).drv.state = .held
      ∧ meets (driveAt .setting (lifting (sub .release .positive))) .winchMove 0x20 [0] (3 + 1) :=
  ⟨⟨meets_of (by decide +kernel), by decide⟩, ⟨meets_of (by decide +kernel), by decide⟩,
    ⟨meets_of (by decide +kernel), by decide⟩, meets_of (by decide +kernel),
    by decide, by decide, meets_of (by decide +kernel), by decide, meets_of (by decide +kernel)⟩

/-- An operation request that starts: its premises in a state; `n` sub-requests, and `more` frames beside its own. -/
def startsB (s : State) (row : Instr) (fn : Nat) (args : List Byte) (n : Nat) (more : Nat := 0) : Bool :=
  meetsB s row fn args (1 + more + n) && decide (s.node.state = .run)
    && ((holding (ask fn args) s).operationAsked row args).any fun x => x.2.2.length == n

theorem witness_AcceptedOperationsQueueTheirFirstSubRequests :
    (winch.op = none ∧ winch.drv.sourceEntry = none ∧ rotary.op = none ∧ rotary.drv.sourceEntry = none)
      ∧ startsB winch .lower 0x21 [0, 0x07, 0xD1] 1 = true ∧ startsB winch .lift 0x22 [0, 0x07, 0xCF] 1 = true
      ∧ startsB (winch.withPeers [crowdPeer, rotaryPeer [1, 0, 0, 0, 0]]) .lower 0x21 [0, 0x07, 0xD1] 2 = true
      ∧ startsB winch .lift 0x22 [0xFF, 0xFF, 0xFF] 1 = true
      ∧ startsB winch .extend 0x23 [] 1 = true
      ∧ startsB rotary .bore 0x43 [0, 0, 1, 0, 1, 0, 1, 0, 1] 2 = true ∧ startsB rotary .spinOff 0x45 [10] 2 = true
      ∧ (startsB (acting (.haul 9) winch) .lift 0x22 [0, 0x07, 0xCF] 1 1 = true
        ∧ (acting (.haul 9) winch).drv.source = some (.request 0) ∧ (acting (.haul 9) winch).op = none
        ∧ (acting (.haul 9) winch).entryOf 0 = some (entry 0x20 .acting))
      ∧ startsB (lifting (sub .release .positive)) .lift 0x22 [0, 0x07, 0xCF] 1 (1 + 1) = true
      ∧ (lifting (sub .release .positive)).drv.sourceEntry = none := by
  decide +kernel

/-- A BORE under way at the rotary with two sub-requests. -/
def boring : State :=
  (withEntry (entry Fn.bore .waitingPeers) rotary).withOp
    (some { spec := .bore 1000 20 30 40, requester := 9, tag := 1, entry := 0, phase := .prepare, corr := 0,
            subs := [sub (.winchFloat 60) .positive, { sub (.thrust 20) .positive with tag := 6 }],
            pubWait := none, pubFrom := 0, lastMiss := false })

theorem witness_BoreStopEndsTheBore :
    (meets rotary .boreStop 0x44 [] 2 ∧ rotary.node.state = .run ∧ rotary.op = none)
      ∧ meets boring .boreStop 0x44 [] (3 + 2) ∧ (boring.op.map fun o => (o.spec.code, o.subs.length)) = some (4, 2)
      ∧ boring.entryOf 0 = some (entry Fn.bore .waitingPeers) ∧ meets rotary .boreStop 0x44 [0] 2 :=
  ⟨⟨meets_of (by decide +kernel), by decide⟩, meets_of (by decide +kernel), by decide, by decide,
    meets_of (by decide +kernel)⟩

/-- An operation's PAY, with a crowd HOLD still acting. -/
def paying : State :=
  let s := lifting (sub .crowdHold .positive)
  s.withDrv { s.drv with state := .active, mode := .pay 9, source := some .operation }

theorem witness_SetDatumMovesTheDepth :
    (meets (winchIn .stopped) .setDatum 0x24 [0x02, 0x49, 0xF0] 3 ∧ readDepth [0x02, 0x49, 0xF0] = some 150000)
      ∧ meets winch .setDatum 0x24 [0xFF, 0x3C, 0xB0] 3 ∧ readDepth [0xFF, 0x3C, 0xB0] = some (-50000)
      ∧ (meets paying .setDatum 0x24 [0x01, 0x5F, 0x90] (3 + 1) ∧ readDepth [0x01, 0x5F, 0x90] = some 90000
        ∧ paying.drv.source = some .operation ∧ (paying.op.map fun o => o.subs.length) = some 1
        ∧ paying.drv.mode = .pay 9 ∧ paying.drv.state = .active ∧ paying.node.setup.maxDepth = 90000)
      ∧ meets winch .setDatum 0x24 [0x02, 0x49, 0xF1] 2 ∧ readDepth [0x02, 0x49, 0xF1] = none :=
  ⟨⟨meets_of (by decide +kernel), by decide⟩, meets_of (by decide +kernel), by decide,
    ⟨meets_of (by decide +kernel), by decide⟩, meets_of (by decide +kernel), by decide⟩

/-- An UNKNOWN picture, with the rope paid out. -/
def lost (payout : Int) (ps : List Peer) : State :=
  let s := winchAt .unknown ps
  s.withSens { s.sens with payout := payout }

theorem witness_AssertedPicturesAreRebuilt :
    meets (lost 1050 winch.peers) .assertPicture 0x25 [1, 2, 0x03, 0xE8] 2
      ∧ (lost 1050 winch.peers).readPicture [1, 2, 0x03, 0xE8] = some [(2, 1000)]
      ∧ (lost 1050 winch.peers).trk.joints.length = (lost 1050 winch.peers).jointCount
      ∧ ((lost 1050 winch.peers).trk.state = .unknown ∧ (lost 1050 winch.peers).strokeAvailable = true
        ∧ ((lost 1050 winch.peers).E - 1000).natAbs ≤ (lost 1050 winch.peers).node.setup.slipTol)
      ∧ (lost 1050 winch.peers).bothGood = true ∧ (lost 1050 [crowdPeer]).bothGood = false
      ∧ (lost 1050 [crowdPeer]).strokeAvailable = true
      ∧ ¬((lost 1051 winch.peers).E - 1000).natAbs ≤ (lost 1051 winch.peers).node.setup.slipTol
      ∧ (lost 1050 winch.peers).readPicture [1, 2, 0x03, 0xE8, 0] = none
      ∧ (lost 1050 winch.peers).readPicture [1, 3, 0x03, 0xE8] = none
      ∧ meets (lost 1050 winch.peers) .assertPicture 0x25 [1, 3, 0x03, 0xE8] 2 :=
  ⟨meets_of (by decide +kernel), by decide, by decide, by decide, by decide, by decide, by decide, by decide, by decide,
    by decide, meets_of (by decide +kernel)⟩

/-- A node whose aux window takes the TOOL functions, above the datum and still. -/
def tooled (speed : Int) : State :=
  let s := (winch.withReq { winch.req with aux1 := { base := 0xC0, mask := 0xF0, qual := .set } }).withTrk
    { winch.trk with datumOffset := 3000 }
  s.withSens { s.sens with speed := speed }

theorem witness_ToolRequestsMoveTheTool :
    meets (tooled 0) .toolOpen 0xC0 [] 2 ∧ meets (tooled 0) .toolClose 0xC1 [] 2 ∧ meets (tooled 0) .toolHold 0xC2 [] 2
      ∧ toolAsked .toolOpen = some .opened ∧ (tooled 0).node.state = .run ∧ (tooled 0).toolInterlock = true
      ∧ meets winch .undefinedFunction 0x26 [] 2
      ∧ (meets ((tooled 0).withTrk winch.trk) .toolOpen 0xC0 [] 2
        ∧ ((tooled 0).withTrk winch.trk).toolInterlock = false)
      ∧ meets (tooled 0) .toolClose 0xC1 [1] 2 :=
  ⟨meets_of (by decide +kernel), meets_of (by decide +kernel), meets_of (by decide +kernel), by decide, by decide,
    by decide, meets_of (by decide +kernel), ⟨meets_of (by decide +kernel), by decide⟩, meets_of (by decide +kernel)⟩

end Sys2Proof.Tests
end

/-! ## Attribution (R7 to R9)

R7 is read off `Tracker.attribute` by the two cases of `opposes`. For R8 and R9 the model searches with fuel, the number
of joints, and the statement speaks of a recursion without fuel. What bridges them is that one more unit of fuel changes
nothing once the fuel covers the CLOSED joints (`growNew_succ_fuel`) or the stack (`shrink_succ_fuel`). -/

namespace Sys2Proof.Machine

/-! ### R7: which changes cancel residue -/

theorem opposes_iff (c residue : Int) :
    opposes c residue = true ↔ (0 < c ∧ residue < 0) ∨ (c < 0 ∧ 0 < residue) := decide_eq_true_iff

namespace Tracker

variable {slide : Nat → Nat} {free : Nat → Bool} {t : Tracker}

theorem place_of_pos {c : Int} (hc : 0 < c) : t.place slide free c = t.increase slide free c.toNat := if_pos hc.le

theorem place_of_neg {c : Int} (hc : c < 0) : t.place slide free c = t.decrease free (-c).toNat := if_neg hc.not_ge

theorem attribute_of_cancelled {c : Int} (ho : opposes c t.residue = true) (hc : c.natAbs ≤ t.residue.natAbs) :
    t.attribute slide free c = { t with residue := t.residue + c } := by
  rw [Tracker.attribute, if_pos ho, if_pos hc]

theorem attribute_of_larger {c : Int} (ho : opposes c t.residue = true) (hc : t.residue.natAbs < c.natAbs) :
    t.attribute slide free c = ({ t with residue := 0 }).place slide free (c + t.residue) := by
  rw [Tracker.attribute, if_pos ho, if_neg hc.not_ge]

theorem attribute_of_not_opposes {c : Int} (ho : ¬opposes c t.residue = true) :
    t.attribute slide free c = t.place slide free c := by
  rw [Tracker.attribute, if_neg ho]

end Tracker

/-- Settles O11: a change of the opposite sign and larger than the residue leaves a rest that is not 0, so the sign of
the rest picks R8 or R9. -/
theorem residueIsCancelledFirst : Obligations.ResidueIsCancelledFirst := by
  intro slide free c t opposite
  have hiff : opposes c t.residue = true ↔ opposite := opposes_iff c t.residue
  refine ⟨fun ho hc => ?_, fun ho hc => ?_, fun ho hc => ?_, fun ho hc => ?_⟩
  · exact Tracker.attribute_of_cancelled (hiff.mpr ho) hc
  · rw [Tracker.attribute_of_larger (hiff.mpr ho) hc]
    split
    · next hrest => exact Tracker.place_of_pos hrest
    · next hrest =>
      have hneg : c + t.residue < 0 := by omega
      exact Tracker.place_of_neg hneg
  · rw [Tracker.attribute_of_not_opposes (mt hiff.mp ho), Tracker.place_of_pos hc]
  · rw [Tracker.attribute_of_not_opposes (mt hiff.mp ho), Tracker.place_of_neg hc]

namespace Tracker

variable {slide : Nat → Nat} {free : Nat → Bool} {t u : Tracker}

/-! ### The joint picture: one record, the top, the size of the stack -/

/-- R1: a joint record replaced by itself; outside the joint list there is none to replace. -/
@[simp] theorem setJoint_joint (t : Tracker) (j : Nat) : t.setJoint j (t.joint j) = t := by
  have hset : t.joints.set (j - 1) (t.joint j) = t.joints := by
    by_cases hj : j - 1 < t.joints.length
    · rw [joint, List.getD_eq_getElem _ _ hj, List.set_getElem_self]
    · exact List.set_eq_of_length_le (not_lt.mp hj)
  rw [setJoint, hset]

/-- R2: the joints of the stack are within the joint list, and each stands in it once. -/
theorem pictured.stack_length_le (h : t.pictured slide) : t.stack.length ≤ t.joints.length := by
  obtain ⟨hnodup, hrange, -⟩ := h
  have hsub : t.stack ⊆ List.range' 1 t.joints.length := fun j hj => by
    have := hrange j hj
    exact List.mem_range'_1.mpr (by omega)
  simpa using (List.subperm_of_subset hnodup hsub).length_le

/-- R2: the top of the stack is a joint of the list and OPEN. -/
theorem pictured.top {j : Nat} {rest : List Nat} (h : t.pictured slide) (hs : t.stack = j :: rest) :
    (1 ≤ j ∧ j ≤ t.joints.length) ∧ (t.joint j).opened = true := by
  obtain ⟨-, hrange, hrec⟩ := h
  have hmem : j ∈ t.stack := by simp [hs]
  have hj := hrange j hmem
  exact ⟨hj, (hrec j hj.1 hj.2).1.mpr hmem⟩

/-! ### R8, step 1: the top -/

/-- R8, step 1: the top joint is FREE and below its slide. -/
def topTakes (slide : Nat → Nat) (free : Nat → Bool) (t : Tracker) (j : Nat) : Prop :=
  t.stack.head? = some j ∧ free j = true ∧ (t.joint j).ext < slide j

theorem growTop_of_empty (a : Nat) (hs : t.stack = []) : t.growTop slide free a = (t, a) := by
  rw [growTop, hs]

theorem growTop_of_free {j : Nat} {rest : List Nat} (a : Nat) (hs : t.stack = j :: rest) (hf : free j = true) :
    t.growTop slide free a
      = (t.setJoint j { opened := true, ext := (t.joint j).ext + min a (slide j - (t.joint j).ext) },
          a - min a (slide j - (t.joint j).ext)) := by
  rw [growTop, hs]
  exact if_pos hf

theorem growTop_of_notFree {j : Nat} {rest : List Nat} (a : Nat) (hs : t.stack = j :: rest) (hf : free j = false) :
    t.growTop slide free a = (t, a) := by
  rw [growTop, hs]
  exact if_neg (by simp [hf])

/-- R8, step 1: an OPEN top leaves all of an amount that finds no headroom. -/
theorem growTop_of_full {j : Nat} {rest : List Nat} {a : Nat} (hs : t.stack = j :: rest)
    (ho : (t.joint j).opened = true) (hfull : min a (slide j - (t.joint j).ext) = 0) :
    t.growTop slide free a = (t, a) := by
  cases hf : free j with
  | false => exact growTop_of_notFree a hs hf
  | true =>
    have hrec : ({ opened := true, ext := (t.joint j).ext } : JointRec) = t.joint j := by rw [← ho]
    rw [growTop_of_free a hs hf, hfull, Nat.add_zero, hrec, setJoint_joint, Nat.sub_zero]

/-- R8, step 1: a change of 0, or a top that is absent, not FREE or at its slide. -/
theorem growTop_of_not_topTakes {a : Nat} (h : t.pictured slide) (hn : 0 < a → ∀ j, ¬t.topTakes slide free j) :
    t.growTop slide free a = (t, a) := by
  cases hs : t.stack with
  | nil => exact growTop_of_empty a hs
  | cons j rest =>
    cases hf : free j with
    | false => exact growTop_of_notFree a hs hf
    | true =>
      have hfull : min a (slide j - (t.joint j).ext) = 0 := by
        by_contra hne
        exact hn (by omega) j ⟨by simp [hs], hf, by omega⟩
      exact growTop_of_full hs (h.top hs).2 hfull

/-! ### R8, step 2: the lowest-numbered CLOSED FREE joint -/

/-- R8, step 2: a joint that is CLOSED and FREE. -/
def canOpen (free : Nat → Bool) (t : Tracker) (j : Nat) : Prop :=
  1 ≤ j ∧ j ≤ t.joints.length ∧ (t.joint j).opened = false ∧ free j = true

/-- R8, step 2: the lowest-numbered of the joints that can open. -/
def opensNext (free : Nat → Bool) (t : Tracker) (j : Nat) : Prop :=
  t.canOpen free j ∧ ∀ k, t.canOpen free k → j ≤ k

theorem opensNext_or_none (free : Nat → Bool) (t : Tracker) :
    (∃ j, t.opensNext free j) ∨ ∀ j, ¬t.canOpen free j := by
  classical
  by_cases h : ∃ j, t.canOpen free j
  · exact .inl ⟨Nat.find h, Nat.find_spec h, fun _ hk => Nat.find_min' h hk⟩
  · exact .inr (not_exists.mp h)

/-- The search of `Tracker.growNew` finds the joint that R8 names. -/
theorem find_eq_some_of_opensNext {j : Nat} (h : t.opensNext free j) :
    (((List.range t.joints.length).map (· + 1)).find? fun j => !(t.joint j).opened && free j) = some j := by
  obtain ⟨⟨h1, hl, hclosed, hfree⟩, hleast⟩ := h
  have hrange : (List.range t.joints.length).find? ((fun j => !(t.joint j).opened && free j) ∘ (· + 1))
      = some (j - 1) := by
    refine List.find?_range_eq_some.mpr ⟨?_, List.mem_range.mpr (by omega), fun k hk => ?_⟩
    · simp [Nat.sub_add_cancel h1, hclosed, hfree]
    · have hk' : ¬t.canOpen free (k + 1) := fun hc => by have := hleast _ hc; omega
      by_contra hp
      exact hk' ⟨by omega, by omega, by simpa using hp⟩
  rw [List.find?_map, hrange]
  simp [Nat.sub_add_cancel h1]

theorem find_eq_none_of_not_canOpen (h : ∀ j, ¬t.canOpen free j) :
    (((List.range t.joints.length).map (· + 1)).find? fun j => !(t.joint j).opened && free j) = none := by
  refine List.find?_eq_none.mpr fun j hj hp => h j ?_
  obtain ⟨k, hk, rfl⟩ := List.mem_map.mp hj
  exact ⟨by omega, List.mem_range.mp hk, by simpa using hp⟩

@[simp] theorem growNew_zero_amount (slide : Nat → Nat) (free : Nat → Bool) (n : Nat) (t : Tracker) :
    t.growNew slide free n 0 = (t, 0) := by
  cases n <;> rfl

theorem growNew_of_not_canOpen (n a : Nat) (h : ∀ j, ¬t.canOpen free j) : t.growNew slide free n a = (t, a) := by
  cases n with
  | zero => rfl
  | succ n =>
    rw [growNew, find_eq_none_of_not_canOpen h]
    split
    · next ha => rw [ha]
    · rfl

theorem growNew_succ_of_opensNext {j a : Nat} (n : Nat) (ha : 0 < a) (h : t.opensNext free j) :
    t.growNew slide free (n + 1) a = (t.openJoint j (min a (slide j))).growNew slide free n (a - min a (slide j)) := by
  rw [growNew, find_eq_some_of_opensNext h, if_neg ha.ne']

/-- R1: how many joints are CLOSED: what the fuel of `Tracker.growNew` has to cover. -/
def closedCount (t : Tracker) : Nat := t.joints.countP fun r => !r.opened

theorem closedCount_le (t : Tracker) : t.closedCount ≤ t.joints.length := List.countP_le_length

theorem closedCount_openJoint {j : Nat} (x : Nat) (h : t.canOpen free j) :
    (t.openJoint j x).closedCount + 1 = t.closedCount := by
  obtain ⟨h1, hl, hclosed, -⟩ := h
  have hj : j - 1 < t.joints.length := by omega
  rw [joint, List.getD_eq_getElem _ _ hj] at hclosed
  have hpos : 0 < t.closedCount := List.countP_pos_iff.mpr ⟨_, List.getElem_mem hj, by simp [hclosed]⟩
  have hset : (t.openJoint j x).closedCount = t.closedCount - 1 := by
    simp [closedCount, openJoint, setJoint, List.countP_set hj, hclosed]
  omega

/-- R8, step 2: fuel beyond the number of CLOSED joints changes nothing. -/
theorem growNew_succ_fuel {n : Nat} (a : Nat) (h : t.closedCount ≤ n) :
    t.growNew slide free (n + 1) a = t.growNew slide free n a := by
  induction n generalizing a t with
  | zero =>
    refine growNew_of_not_canOpen 1 a fun j hj => ?_
    have := closedCount_openJoint 0 hj
    omega
  | succ n ih =>
    rcases Nat.eq_zero_or_pos a with rfl | ha
    · simp
    obtain ⟨j, hj⟩ | hnone := opensNext_or_none free t
    · have hcount := closedCount_openJoint (min a (slide j)) hj.1
      rw [growNew_succ_of_opensNext _ ha hj, growNew_succ_of_opensNext _ ha hj, ih _ (by omega)]
    · rw [growNew_of_not_canOpen _ _ hnone, growNew_of_not_canOpen _ _ hnone]

/-! ### R8: an increase as a recursion -/

/-- An increase that the top takes nothing of. -/
theorem increase_of_growTop {a : Nat} (h : t.growTop slide free a = (t, a)) :
    t.increase slide free a
      = { (t.growNew slide free t.joints.length a).1 with
            residue := (t.growNew slide free t.joints.length a).1.residue
              + (t.growNew slide free t.joints.length a).2 } := by
  rw [increase, h]

/-- An increase goes on from the tracker that step 1 leaves. -/
theorem increase_eq_of_growTop {a b : Nat} (h : t.growTop slide free a = (u, b))
    (hu : u.growTop slide free b = (u, b)) : t.increase slide free a = u.increase slide free b := by
  rw [increase, increase, h, hu]

theorem increase_zero_amount (free : Nat → Bool) (h : t.pictured slide) : t.increase slide free 0 = t := by
  rw [increase_of_growTop (growTop_of_not_topTakes h fun ha => absurd ha (lt_irrefl 0))]
  simp

theorem increase_of_topTakes {j : Nat} (a : Nat) (h : t.pictured slide) (ht : t.topTakes slide free j) :
    t.increase slide free a
      = (t.setJoint j
            { opened := true, ext := (t.joint j).ext + min a (slide j - (t.joint j).ext) }).increase slide free
          (a - min a (slide j - (t.joint j).ext)) := by
  obtain ⟨hhead, hf, hlt⟩ := ht
  obtain ⟨rest, hs⟩ := List.head?_eq_some_iff.mp hhead
  have hj := (h.top hs).1
  have hrec := fun r => joint_setJoint r hj j hj.1
  refine increase_eq_of_growTop (growTop_of_free a hs hf) (growTop_of_full (rest := rest) hs ?_ ?_)
  · rw [hrec, if_pos rfl]
  · rw [hrec, if_pos rfl]
    dsimp only
    omega

theorem increase_of_opensNext {j a : Nat} (ha : 0 < a) (h : t.pictured slide)
    (ht : ∀ k, ¬t.topTakes slide free k) (hj : t.opensNext free j) :
    t.increase slide free a
      = (t.openJoint j (min a (slide j))).increase slide free (a - min a (slide j)) := by
  obtain ⟨h1, hl, -⟩ := hj.1
  have hrec : (t.openJoint j (min a (slide j))).joint j = { opened := true, ext := min a (slide j) } :=
    (joint_setJoint _ ⟨h1, hl⟩ j h1).trans (if_pos rfl)
  have hfull : (t.openJoint j (min a (slide j))).growTop slide free (a - min a (slide j))
      = (t.openJoint j (min a (slide j)), a - min a (slide j)) :=
    growTop_of_full (rest := t.stack) rfl (by rw [hrec]) (by rw [hrec]; dsimp only; omega)
  have hlen : (t.openJoint j (min a (slide j))).joints.length = t.joints.length := length_setJoint t j _
  have hgrow : t.growNew slide free t.joints.length a
      = (t.openJoint j (min a (slide j))).growNew slide free t.joints.length (a - min a (slide j)) := by
    rw [← growNew_succ_of_opensNext t.joints.length ha hj, growNew_succ_fuel a t.closedCount_le]
  rw [increase_of_growTop (growTop_of_not_topTakes h fun _ => ht), increase_of_growTop hfull, hlen, hgrow]

theorem increase_of_not_canOpen (a : Nat) (h : t.pictured slide) (ht : ∀ j, ¬t.topTakes slide free j)
    (hc : ∀ j, ¬t.canOpen free j) : t.increase slide free a = { t with residue := t.residue + a } := by
  rw [increase_of_growTop (growTop_of_not_topTakes h fun _ => ht), growNew_of_not_canOpen _ a hc]

/-! ### R9: a decrease as a recursion -/

@[simp] theorem shrink_zero_amount (free : Nat → Bool) (n : Nat) (t : Tracker) : t.shrink free n 0 = (t, 0) := by
  cases n <;> rfl

theorem shrink_of_empty (n a : Nat) (hs : t.stack = []) : t.shrink free n a = (t, a) := by
  cases n with
  | zero => rfl
  | succ n =>
    rw [shrink, hs]
    split
    · next ha => rw [ha]
    · rfl

theorem shrink_of_notFree {j : Nat} {rest : List Nat} (n a : Nat) (hs : t.stack = j :: rest) (hf : free j = false) :
    t.shrink free n a = (t, a) := by
  cases n with
  | zero => rfl
  | succ n =>
    rw [shrink, hs]
    split
    · next ha => rw [ha]
    · simp [hf]

theorem shrink_succ_of_lt {j a : Nat} {rest : List Nat} (n : Nat) (ha : 0 < a) (hs : t.stack = j :: rest)
    (hf : free j = true) (hlt : a < (t.joint j).ext) :
    t.shrink free (n + 1) a = (t.setJoint j { opened := true, ext := (t.joint j).ext - a }, 0) := by
  rw [shrink, if_neg ha.ne', hs]
  simp [hf, hlt]

theorem shrink_succ_of_le {j a : Nat} {rest : List Nat} (n : Nat) (ha : 0 < a) (hs : t.stack = j :: rest)
    (hf : free j = true) (hle : (t.joint j).ext ≤ a) :
    t.shrink free (n + 1) a
      = ({ (t.setJoint j JointRec.closed) with stack := rest }).shrink free n (a - (t.joint j).ext) := by
  rw [shrink, if_neg ha.ne', hs]
  simp [hf, hle.not_gt]

/-- R9: fuel beyond the height of the stack changes nothing. -/
theorem shrink_succ_fuel {n : Nat} (a : Nat) (h : t.stack.length ≤ n) :
    t.shrink free (n + 1) a = t.shrink free n a := by
  induction n generalizing a t with
  | zero => exact shrink_of_empty 1 a (List.length_eq_zero_iff.mp (Nat.le_zero.mp h))
  | succ n ih =>
    rcases Nat.eq_zero_or_pos a with rfl | ha
    · simp
    cases hs : t.stack with
    | nil => rw [shrink_of_empty _ a hs, shrink_of_empty _ a hs]
    | cons j rest =>
      cases hf : free j with
      | false => rw [shrink_of_notFree _ a hs hf, shrink_of_notFree _ a hs hf]
      | true =>
        rcases lt_or_ge a (t.joint j).ext with hlt | hle
        · rw [shrink_succ_of_lt _ ha hs hf hlt, shrink_succ_of_lt _ ha hs hf hlt]
        · have hrest : rest.length ≤ n := by simpa [hs] using h
          rw [shrink_succ_of_le _ ha hs hf hle, shrink_succ_of_le _ ha hs hf hle, ih _ hrest]

theorem decrease_eq (free : Nat → Bool) (a : Nat) (t : Tracker) :
    t.decrease free a
      = { (t.shrink free t.joints.length a).1 with
            residue := (t.shrink free t.joints.length a).1.residue - (t.shrink free t.joints.length a).2 } := rfl

theorem decrease_zero_amount (free : Nat → Bool) (t : Tracker) : t.decrease free 0 = t := by
  simp [decrease_eq]

theorem decrease_of_empty (a : Nat) (hs : t.stack = []) :
    t.decrease free a = { t with residue := t.residue - a } := by
  rw [decrease_eq, shrink_of_empty _ a hs]

theorem decrease_of_notFree {j : Nat} {rest : List Nat} (a : Nat) (hs : t.stack = j :: rest) (hf : free j = false) :
    t.decrease free a = { t with residue := t.residue - a } := by
  rw [decrease_eq, shrink_of_notFree _ a hs hf]

theorem decrease_of_lt {j a : Nat} {rest : List Nat} (h : t.pictured slide) (ha : 0 < a) (hs : t.stack = j :: rest)
    (hf : free j = true) (hlt : a < (t.joint j).ext) :
    t.decrease free a = t.setJoint j { opened := true, ext := (t.joint j).ext - a } := by
  rw [decrease_eq, ← shrink_succ_fuel a h.stack_length_le, shrink_succ_of_lt _ ha hs hf hlt]
  simp [setJoint]

theorem decrease_of_le {j a : Nat} {rest : List Nat} (h : t.pictured slide) (ha : 0 < a) (hs : t.stack = j :: rest)
    (hf : free j = true) (hle : (t.joint j).ext ≤ a) :
    t.decrease free a
      = ({ (t.setJoint j JointRec.closed) with stack := rest }).decrease free (a - (t.joint j).ext) := by
  have hlen : (Tracker.joints { (t.setJoint j JointRec.closed) with stack := rest }).length = t.joints.length :=
    length_setJoint t j _
  rw [decrease_eq, decrease_eq, hlen, ← shrink_succ_fuel a h.stack_length_le, shrink_succ_of_le _ ha hs hf hle]

end Tracker

/-- Settles O12: R8 and R9 clause by clause, each by the equation of an increase or a decrease for its case. -/
theorem increasesAndDecreasesMoveTheJointsInOrder : Obligations.IncreasesAndDecreasesMoveTheJointsInOrder := by
  intro slide free a t h topTakes canOpen opened
  refine ⟨Tracker.increase_zero_amount free h, Tracker.decrease_zero_amount free t, fun ha => ⟨?_, ?_, ?_, ?_, ?_⟩⟩
  · exact fun j hj => Tracker.increase_of_topTakes a h hj
  · exact fun ht j hc hleast => Tracker.increase_of_opensNext ha h ht ⟨hc, hleast⟩
  · exact fun ht hc => Tracker.increase_of_not_canOpen a h ht hc
  · exact fun hs => Tracker.decrease_of_empty a hs
  · exact fun j rest hs => ⟨Tracker.decrease_of_notFree a hs, Tracker.decrease_of_lt h ha hs,
      Tracker.decrease_of_le h ha hs⟩

end Sys2Proof.Machine

/-! ## Travel (R29, R30)

A clockwise or an anticlockwise event makes one new monitor record, and what can follow in the same event (a miss, a
release, the end of a mode, a spin half) leaves its direction and its counts. So the counts are read off
`LockMonitor.clockwise` and `LockMonitor.anticlockwise`. -/

namespace Sys2Proof.Machine

/-! ### The direction and the counts in the monitor's own operations -/

namespace LockMonitor

@[simp] theorem miss_dir (l : LockMonitor) : l.miss.dir = l.dir := rfl
@[simp] theorem miss_fwd (l : LockMonitor) : l.miss.fwd = l.fwd := rfl
@[simp] theorem miss_rev (l : LockMonitor) : l.miss.rev = l.rev := rfl

@[simp] theorem releaseAll_dir (l : LockMonitor) : l.releaseAll.dir = l.dir := rfl
@[simp] theorem releaseAll_fwd (l : LockMonitor) : l.releaseAll.fwd = l.fwd := rfl
@[simp] theorem releaseAll_rev (l : LockMonitor) : l.releaseAll.rev = l.rev := rfl

@[simp] theorem anticlockwise_dir (n : Nat) (l : LockMonitor) : (l.anticlockwise n).dir = .reverse := rfl
@[simp] theorem anticlockwise_fwd (n : Nat) (l : LockMonitor) : (l.anticlockwise n).fwd = l.fwd := rfl
@[simp] theorem anticlockwise_rev (n : Nat) (l : LockMonitor) :
    (l.anticlockwise n).rev = min (l.rev + n) 32767 := rfl

@[simp] theorem clockwise_dir (n : Nat) (l : LockMonitor) : (l.clockwise n).dir = .forward := by
  unfold clockwise
  split
  · next hd => exact hd
  · rfl

@[simp] theorem clockwise_rev (n : Nat) (l : LockMonitor) : (l.clockwise n).rev = 0 := by
  unfold clockwise
  split <;> rfl

theorem clockwise_fwd_of_forward {l : LockMonitor} (n : Nat) (hd : l.dir = .forward) :
    (l.clockwise n).fwd = min (l.fwd + n) 32767 := by
  rw [clockwise, if_pos hd]
  rfl

/-- R30: a forward start counts from 0. -/
theorem clockwise_fwd_of_start {l : LockMonitor} (n : Nat) (hd : l.dir ≠ .forward) :
    (l.clockwise n).fwd = min n 32767 := by
  rw [clockwise, if_neg hd]
  rfl

end LockMonitor

/-! ### The monitor after an angle event -/

@[simp] theorem State.finish_sens (s : State) : s.finish.sens = s.sens :=
  (State.via_finish (State.via_refl Part.publication s) (by decide) (by decide)).same .sens (by decide)

@[simp] theorem State.finish_locks (s : State) : s.finish.locks = s.locks :=
  (State.via_finish (State.via_refl Part.publication s) (by decide) (by decide)).same .locks (by decide)

@[simp] theorem State.watchEnded_locks (ofTurn : Bool) (res : Result) (why : Reason) (content : List Byte) (s : State) :
    (s.watchEnded ofTurn res why content).locks = s.locks :=
  (State.via_watchEnded (State.via_refl Part.ending s) (by decide) (by decide) (by decide) (by decide) (by decide)
    ofTurn res why content).same .locks (by decide)

/-- R35: the watch can end in a miss at the event. -/
theorem State.turnForward_locks (n : Nat) (s : State) :
    (s.turnForward n).locks = s.locks.clockwise n ∨ (s.turnForward n).locks = (s.locks.clockwise n).miss := by
  unfold State.turnForward
  dsimp only
  split
  · exact .inr (by simp)
  · exact .inl rfl

/-- R36: the event can release every joint. -/
theorem State.turnBack_locks (n : Nat) (s : State) :
    (s.turnBack n).locks = s.locks.anticlockwise n ∨ (s.turnBack n).locks = (s.locks.anticlockwise n).releaseAll := by
  unfold State.turnBack
  dsimp only
  split
  · exact .inr rfl
  · exact .inl rfl

/-- The modes that count travel end without touching the monitor or the readings. -/
theorem State.turnChecks_via (c : Int) (s : State) :
    s.via Part.ending (((s.checkRelease).checkReverse).checkSpin c) := by
  simp (maxDischargeDepth := 40) [Part.ending, Part.publication]

theorem State.turn_locks_of_pos {c : Int} (hc : 0 < c) (s : State) :
    (s.turn c).locks = s.locks.clockwise c.toNat ∨ (s.turn c).locks = (s.locks.clockwise c.toNat).miss := by
  have hlocks : (s.turn c).locks
      = ((s.withSens { s.sens with angle := s.sens.angle + c }).turnForward c.toNat).locks := by
    rw [State.turn, if_pos hc]
    exact (State.turnChecks_via c _).same .locks (by decide)
  rw [hlocks]
  exact State.turnForward_locks _ _

theorem State.turn_locks_of_neg {c : Int} (hc : c < 0) (s : State) :
    (s.turn c).locks = s.locks.anticlockwise (-c).toNat
      ∨ (s.turn c).locks = (s.locks.anticlockwise (-c).toNat).releaseAll := by
  have hlocks : (s.turn c).locks
      = ((s.withSens { s.sens with angle := s.sens.angle + c }).turnBack (-c).toNat).locks := by
    rw [State.turn, if_neg hc.not_gt]
    exact (State.turnChecks_via c _).same .locks (by decide)
  rw [hlocks]
  exact State.turnBack_locks _ _

@[simp] theorem State.turn_sens (c : Int) (s : State) :
    (s.turn c).sens = { s.sens with angle := s.sens.angle + c } := by
  have hvia : (s.withSens { s.sens with angle := s.sens.angle + c }).via (.locks :: Part.ending) (s.turn c) := by
    unfold State.turn
    dsimp only
    split <;> simp (maxDischargeDepth := 40) [Part.ending, Part.publication]
  exact hvia.same .sens (by decide)

/-- R30: both counts and the direction after a clockwise event. -/
theorem State.turn_travel_of_pos {c : Int} (hc : 0 < c) (s : State) :
    (s.turn c).locks.dir = .forward ∧ (s.turn c).locks.rev = 0
      ∧ (s.turn c).locks.fwd = (s.locks.clockwise c.toNat).fwd := by
  obtain hl | hl := s.turn_locks_of_pos hc <;> simp [hl]

/-- R30: both counts and the direction after an anticlockwise event. -/
theorem State.turn_travel_of_neg {c : Int} (hc : c < 0) (s : State) :
    (s.turn c).locks.dir = .reverse ∧ (s.turn c).locks.fwd = s.locks.fwd
      ∧ (s.turn c).locks.rev = min (s.locks.rev + (-c).toNat) 32767 := by
  obtain hl | hl := s.turn_locks_of_neg hc <;> simp [hl]

/-- R29: an angle event occurs at a rotary node at every change, in every node state. -/
theorem exec_angleEvent_of_rotary {c : Int} {s : State} (hr : s.role = some .rotary) (hc : c ≠ 0) :
    exec (.angleEvent c) s = .next (s.turn c).finish := by
  change taken (s.role == some .rotary && c != 0) (State.turn c) s = _
  simp [taken, hr, hc]

/-! ### Speed events and resets -/

theorem State.restAt_locks (v : Int) (s : State) : ∃ d, (s.restAt v).locks = { s.locks with dir := d } := by
  unfold State.restAt
  split
  · exact ⟨.rest, rfl⟩
  · exact ⟨s.locks.dir, rfl⟩

/-- R29: a speed event changes nothing of the monitor but the direction. -/
theorem exec_axisSpeedEvent_locks {v : Int} {s t : State} (h : exec (.axisSpeedEvent v) s = .next t) :
    ∃ d, t.locks = { s.locks with dir := d } := by
  have hnext : (if v != s.sens.speed then
      (((s.withSens { s.sens with speed := v }).restAt v).judgeStall).judgeTool.finish else s) = t :=
    Host.Outcome.next.inj h
  split at hnext
  · have hdrv : ∀ u : State, u.via (.drv :: Part.publication) u.judgeStall.judgeTool := fun u => by
      simp [Part.publication]
    obtain ⟨d, hd⟩ := (s.withSens { s.sens with speed := v }).restAt_locks v
    rw [← hnext, State.finish_locks]
    exact ⟨d, ((hdrv _).same .locks (by decide)).trans hd⟩
  · exact ⟨s.locks.dir, by rw [← hnext]⟩

theorem exec_isReset_of_mem {row : Instr} {pins : Straps} {s t : State}
    (hrow : row ∈ [Instr.powerOn pins, .supplyDip pins, .resetLine pins]) (h : exec row s = .next t) :
    s.isReset t := by
  simp only [List.mem_cons, List.not_mem_nil, or_false] at hrow
  obtain rfl | rfl | rfl := hrow
  all_goals exact ⟨_, _, _, (Host.Outcome.next.inj h).symm⟩

/-- Settles O22: the event's step is known (`exec_angleEvent_of_rotary`), so each clause is one about `State.turn`,
about the one field that a speed event changes, or about the monitor's reset value. -/
theorem angleEventsCountTravel : Obligations.AngleEventsCountTravel := by
  refine ⟨fun c s hr hc => ?angle, fun v s t h => ?speed, fun row pins s t hrow h => ?reset,
    fun _ _ _ _ _ => ⟨rfl, rfl⟩⟩
  case angle =>
    have hexec := exec_angleEvent_of_rotary hr hc
    refine ⟨(s.turn c).finish, hexec, by simp, fun hpos => ?clockwise, fun hneg => ?anticlockwise, ?frame⟩
    case clockwise =>
      obtain ⟨hdir, hrev, hfwd⟩ := s.turn_travel_of_pos hpos
      rw [State.finish_locks, hfwd]
      exact ⟨hdir, hrev, LockMonitor.clockwise_fwd_of_start _, LockMonitor.clockwise_fwd_of_forward _⟩
    case anticlockwise =>
      rw [State.finish_locks]
      exact s.turn_travel_of_neg hneg
    case frame =>
      have hvia : s.via ([.sens, .locks] ++ Part.ending) (s.turn c).finish := exec_angleEvent_via hexec
      exact (hvia.mono (by decide)).1
  case speed =>
    obtain ⟨d, hd⟩ := exec_axisSpeedEvent_locks h
    exact ⟨by rw [hd], by rw [hd]⟩
  case reset =>
    obtain ⟨cause, prior, straps, rfl⟩ := exec_isReset_of_mem hrow h
    exact ⟨rfl, rfl⟩

end Sys2Proof.Machine

/-! ## Power sharing (R139, R140)

A class step takes from what is left the sum of the grants of its class, so the sums of the three classes add up to at
most the capacity. For the own grant the statement speaks of every step: a recomputation puts the grant within the own
published claim as long as that claim is the own entry's, so each event that writes the Peer Table or the own published
claim is followed up to its recomputation, and every other event leaves both as they are. -/

namespace Sys2Proof.Machine

/-! ### R139: the grant class by class -/

theorem grantOf_none (cap : Nat) (ps : List Peer) {c : Claim} (hc : c.cls = .noClass) : grantOf cap ps c = 0 := by
  rw [grantOf, hc]

theorem grantOf_some (cap : Nat) (ps : List Peer) {c : Claim} (hc : c.cls ≠ .noClass) :
    grantOf cap ps c = shareOf (capacityFor cap ps c.cls) (classFigures c.cls ps).sum c.kw := by
  unfold grantOf
  split
  · next hnone => exact absurd hnone hc
  · rfl

/-! ### R140: the grants of all counted entries -/

/-- R139: the grants of a class together. -/
def classGrants (cap : Nat) (ps : List Peer) (c : ShareClass) : Nat :=
  (((counted ps).filter fun p => p.claim.cls == c).map fun p => grantOf cap ps p.claim).sum

/-- R139: a class step divides what is left for the class by the class's own figures. -/
theorem classGrants_eq (cap : Nat) (ps : List Peer) {c : ShareClass} (hc : c ≠ .noClass) :
    classGrants cap ps c
      = ((classFigures c ps).map (shareOf (capacityFor cap ps c) (classFigures c ps).sum)).sum := by
  have hgrant : ∀ p ∈ (counted ps).filter fun p => p.claim.cls == c,
      grantOf cap ps p.claim = shareOf (capacityFor cap ps c) (classFigures c ps).sum p.claim.kw := by
    intro p hp
    have hcls : p.claim.cls = c := by simpa using (List.mem_filter.mp hp).2
    rw [grantOf_some cap ps (hcls ▸ hc), hcls]
  rw [classGrants, List.map_congr_left hgrant]
  simp only [classFigures, List.map_map, Function.comp_def]

theorem classGrants_none (cap : Nat) (ps : List Peer) : classGrants cap ps .noClass = 0 := by
  refine List.sum_eq_zero fun g hg => ?_
  obtain ⟨p, hp, rfl⟩ := List.mem_map.mp hg
  exact grantOf_none cap ps (by simpa using (List.mem_filter.mp hp).2)

theorem classGrants_le (cap : Nat) (ps : List Peer) {c : ShareClass} (hc : c ≠ .noClass) :
    classGrants cap ps c ≤ capacityFor cap ps c := by
  rw [classGrants_eq cap ps hc]
  exact sum_shareOf_le _ _

/-- R139: WORK has what GUARD leaves. -/
theorem capacityFor_work (cap : Nat) (ps : List Peer) :
    capacityFor cap ps .work = capacityFor cap ps .guard - classGrants cap ps .guard := by
  rw [classGrants_eq cap ps (by decide)]
  rfl

/-- R139: MOVE has what WORK leaves. -/
theorem capacityFor_move (cap : Nat) (ps : List Peer) :
    capacityFor cap ps .move = capacityFor cap ps .work - classGrants cap ps .work := by
  rw [classGrants_eq cap ps (by decide)]
  rfl

/-- Every entry of a list claims in one class. -/
theorem sum_by_class (g : Peer → Nat) (l : List Peer) :
    let part := fun c => ((l.filter fun p => p.claim.cls == c).map g).sum
    (l.map g).sum = part .noClass + part .guard + part .work + part .move := by
  dsimp only
  induction l with
  | nil => rfl
  | cons p l ih =>
    rw [List.map_cons, List.sum_cons, ih]
    cases hcls : p.claim.cls <;> simp [hcls] <;> omega

theorem sum_grants_eq (cap : Nat) (ps : List Peer) :
    ((counted ps).map fun p => grantOf cap ps p.claim).sum
      = classGrants cap ps .guard + classGrants cap ps .work + classGrants cap ps .move := by
  have hsum : _ = classGrants cap ps .noClass + _ + _ + _ := sum_by_class (fun p => grantOf cap ps p.claim) (counted ps)
  rw [hsum, classGrants_none, Nat.zero_add]
  rfl

theorem sum_grants_le (cap : Nat) (ps : List Peer) : ((counted ps).map fun p => grantOf cap ps p.claim).sum ≤ cap := by
  have hguard : classGrants cap ps .guard ≤ cap := classGrants_le cap ps (by decide)
  have hwork : classGrants cap ps .work ≤ cap - classGrants cap ps .guard :=
    capacityFor_work cap ps ▸ classGrants_le cap ps (by decide)
  have hmove : classGrants cap ps .move ≤ cap - classGrants cap ps .guard - classGrants cap ps .work := by
    have := classGrants_le cap ps (c := .move) (by decide)
    rwa [capacityFor_move, capacityFor_work] at this
  rw [sum_grants_eq]
  omega

/-! ### The Peer Table: one entry put, every entry changed -/

theorem entryAt_cons (n : Nat) (p : Peer) (ps : List Peer) :
    entryAt n (p :: ps) = if p.station = n then some p else entryAt n ps := by
  by_cases h : p.station = n <;> simp [entryAt, h]

theorem entryAt_putPeer_same (p : Peer) (ps : List Peer) : entryAt p.station (putPeer p ps) = some p := by
  induction ps with
  | nil => simp [putPeer, entryAt_cons]
  | cons q qs ih =>
    unfold putPeer
    split
    · simp [entryAt_cons]
    · split
      · simp [entryAt_cons]
      · next hne =>
        have hq : q.station ≠ p.station := fun heq => hne (beq_iff_eq.mpr heq.symm)
        rw [entryAt_cons, if_neg hq, ih]

theorem entryAt_putPeer_other {n : Nat} {p : Peer} (hn : p.station ≠ n) (ps : List Peer) :
    entryAt n (putPeer p ps) = entryAt n ps := by
  induction ps with
  | nil => simp [putPeer, entryAt_cons, hn]
  | cons q qs ih =>
    unfold putPeer
    split
    · rw [entryAt_cons, if_neg hn]
    · split
      · next heq =>
        have hq : q.station ≠ n := by simpa [← eq_of_beq heq] using hn
        rw [entryAt_cons, if_neg hn, entryAt_cons, if_neg hq]
      · rw [entryAt_cons, entryAt_cons, ih]

theorem entryAt_map {f : Peer → Peer} (hf : ∀ p, (f p).station = p.station) (n : Nat) (ps : List Peer) :
    entryAt n (ps.map f) = (entryAt n ps).map f := by
  simp only [entryAt, List.find?_map, Function.comp_def, hf]

theorem station_of_entryAt {n : Nat} {ps : List Peer} {p : Peer} (h : entryAt n ps = some p) : p.station = n := by
  simpa using List.find?_some h

@[simp] theorem Peer.aged_station (p : Peer) : p.aged.station = p.station := by unfold Peer.aged; split <;> rfl

@[simp] theorem Peer.aged_claim (p : Peer) : p.aged.claim = p.claim := by unfold Peer.aged; split <;> rfl

@[simp] theorem Peer.judgedLost_station (mult : Nat) (p : Peer) : (p.judgedLost mult).station = p.station := by
  unfold Peer.judgedLost; split <;> rfl

@[simp] theorem Peer.judgedLost_claim (mult : Nat) (p : Peer) : (p.judgedLost mult).claim = p.claim := by
  unfold Peer.judgedLost; split <;> rfl

@[simp] theorem Peer.older_claim (ms : Nat) (p : Peer) : (p.older ms).claim = p.claim := rfl

/-! ### The own claim is the own entry's, and the grant is within it -/

/-- What a recomputation reads: an ordered Peer Table, whose own entry carries the own published claim (R137). -/
structure State.OwnClaimed (s : State) : Prop where
  ordered : peersOrdered s.peers
  claim : ∀ p, entryAt s.station s.peers = some p → p.claim = s.share.ownClaim

/-- What a recomputation leaves (R140). -/
structure State.ShareKept (s : State) : Prop extends s.OwnClaimed where
  grant : s.share.grant ≤ s.share.ownClaim.kw

theorem State.ShareKept.shareSound {s : State} (h : s.ShareKept) : s.shareSound := ⟨h.claim, h.grant⟩

theorem State.ShareKept.of_sound {s : State} (h : s.sound) (hs : s.shareSound) : s.ShareKept := by
  obtain ⟨⟨-, -, hordered, -⟩, -⟩ := h
  exact ⟨⟨hordered, hs.1⟩, hs.2⟩

/-- The parts that the sharing is read from: the own station, the Peer Table and the arbiter's record. -/
def Part.sharing : List Part := [.straps, .peers, .share]

section
variable {ps : List Part} {s t : State}

theorem State.OwnClaimed.via (hs : s.OwnClaimed) (h : s.via ps t) (hps : ∀ p ∈ Part.sharing, p ∉ ps) :
    t.OwnClaimed := by
  have hpeers : t.peers = s.peers := h.same .peers (hps _ (by decide))
  have hshare : t.share = s.share := h.same .share (hps _ (by decide))
  have hstation : t.station = s.station := congrArg Straps.station (h.same .straps (hps _ (by decide))).1
  refine ⟨hpeers ▸ hs.ordered, ?_⟩
  rw [hpeers, hshare, hstation]
  exact hs.claim

theorem State.ShareKept.via (hs : s.ShareKept) (h : s.via ps t) (hps : ∀ p ∈ Part.sharing, p ∉ ps) : t.ShareKept := by
  have hshare : t.share = s.share := h.same .share (hps _ (by decide))
  exact ⟨hs.toOwnClaimed.via h hps, hshare ▸ hs.grant⟩

/-- R150: aging and the passing of time change neither the station nor the claim of an entry. -/
theorem State.OwnClaimed.mapPeers (hs : s.OwnClaimed) {f : Peer → Peer} (hst : ∀ p, (f p).station = p.station)
    (hcl : ∀ p, (f p).claim = p.claim) (ho : peersOrdered (s.peers.map f)) :
    (s.withPeers (s.peers.map f)).OwnClaimed := by
  refine ⟨ho, fun p hp => ?_⟩
  have hp : (entryAt s.station s.peers).map f = some p := (entryAt_map hst _ _).symm.trans hp
  obtain ⟨q, hq, rfl⟩ := Option.map_eq_some_iff.mp hp
  exact (hcl q).trans (hs.claim q hq)

/-- R137: an entry put that is another station's, or that carries the own published claim. -/
theorem State.OwnClaimed.putPeer (hs : s.OwnClaimed) {p : Peer} (hp : p.presence ≠ .absent)
    (hcl : p.station = s.station → p.claim = s.share.ownClaim) : (s.withPeers (putPeer p s.peers)).OwnClaimed := by
  refine ⟨peersOrdered_putPeer hp hs.ordered, fun q hq => ?_⟩
  by_cases hown : p.station = s.station
  · have hput : entryAt s.station (Machine.putPeer p s.peers) = some p := hown ▸ entryAt_putPeer_same p s.peers
    obtain rfl : p = q := Option.some.inj (hput.symm.trans hq)
    exact hcl hown
  · exact hs.claim q ((entryAt_putPeer_other hown _).symm.trans hq)

theorem State.OwnClaimed.recompute (hs : s.OwnClaimed) : s.recompute.ShareKept := by
  obtain ⟨hclaim, hgrant⟩ := State.recompute_shareSound hs.ordered hs.claim
  refine ⟨⟨?_, hclaim⟩, hgrant⟩
  have hvia : s.via [.node, .pub, .share] s.recompute := by simp
  exact (hvia.same .peers (by decide)) ▸ hs.ordered

/-! ### Each event that writes the Peer Table or the own published claim -/

/-- R142, R151: an entry handed on begins with a recomputation, and what follows it leaves the sharing. -/
theorem State.OwnClaimed.handOn (hs : s.OwnClaimed) (before : State) (accepted : Option Nat) :
    (State.handOn before accepted s).ShareKept := by
  have hvia : s.recompute.via ([.trk, .locks] ++ Part.nodeChange) (State.handOn before accepted s) := by
    unfold State.handOn
    simp (maxDischargeDepth := 40) [Part.nodeChange, Part.ending, Part.publication]
  exact hs.recompute.via hvia (by decide)

/-- R149: an accepted publication is another station's. -/
theorem State.ShareKept.takePublication (hs : s.ShareKept) (f : RxFrame) : (s.takePublication f).ShareKept := by
  unfold State.takePublication
  split
  · exact hs
  · next p hacc =>
    have hother : f.src.toNat ≠ s.station := by
      unfold State.acceptable at hacc
      dsimp only at hacc
      split at hacc
      · next hsrc => exact hsrc.2.2
      · cases hacc
    exact (hs.putPeer (p := acceptedPeer f.src.toNat p) Presence.noConfusion (absurd · hother)).handOn _ _

theorem State.ShareKept.agingStep (hs : s.ShareKept) (n : Nat) : (s.agingStep n).ShareKept := by
  unfold State.agingStep
  split
  · next p hp =>
    split
    · next hold =>
      refine (hs.putPeer (Peer.aged_present hold) fun hown => ?_).handOn _ _
      rw [Peer.aged_station, station_of_entryAt hp] at hown
      rw [Peer.aged_claim]
      exact hs.claim p (hown ▸ hp)
    · exact hs
  · exact hs

/-- R137: the own entry and the own published claim take the same claim. -/
theorem State.OwnClaimed.fillOwnEntry (hs : s.OwnClaimed) (payload : List Byte) :
    (s.fillOwnEntry payload).OwnClaimed := by
  unfold State.fillOwnEntry
  split
  · next p _ =>
    refine ⟨peersOrdered_putPeer (p := acceptedPeer s.station p) Presence.noConfusion hs.ordered, fun q hq => ?_⟩
    have hput := entryAt_putPeer_same (acceptedPeer s.station p) s.peers
    exact congrArg Peer.claim (Option.some.inj (hq.symm.trans hput))
  · exact hs

theorem State.ShareKept.published (hs : s.ShareKept) (n : Nat) (payload : List Byte) :
    (s.published n payload).ShareKept := by
  unfold State.published
  extract_lets filled timed
  have htimed : filled.via [.pub] timed :=
    State.via_ite (fun _ => State.via_refl _ _) (fun _ => State.via_startPeriodic (State.via_refl _ _) (by decide))
  have hsent : timed.recompute.via [.line, .req, .op] (timed.recompute.opPublished n) := by simp
  exact ((hs.fillOwnEntry payload).via htimed (by decide)).recompute.via hsent (by decide)

/-- R191: of the frames that complete, a PUBLISH alone has to do with the sharing. -/
theorem State.ShareKept.report (hs : s.ShareKept) (f : TxFrame) : (s.report f).ShareKept := by
  have hother : ∀ {u : State}, s.via [.line, .req, .op] u → u.ShareKept := fun h => hs.via h (by decide)
  unfold State.report
  split
  · exact hs.published _ _
  · exact hother (State.via_ite (fun _ => by simp) (fun _ => by simp))
  all_goals exact hother (by simp)

theorem State.ShareKept.frameSent (hs : s.ShareKept) : s.frameSent.ShareKept := by
  unfold State.frameSent
  split
  · exact hs
  · have hline : s.via [.rx, .line] (((s.withRx .hunting []).clearShifter).goodFrame) := by
      simp (maxDischargeDepth := 4)
    exact (hs.via hline (by decide)).report _

/-- R202: the commit judges the entries against the committed LOST_MULT and recomputes. -/
theorem State.OwnClaimed.commitSucceeds (hs : s.OwnClaimed) : s.commitSucceeds.ShareKept := by
  unfold State.commitSucceeds
  extract_lets items oldPeriod node stored req windows taken judged shared timed
  have htaken : s.via [.setup, .node, .req, .trk, .locks] taken := by
    have hstored : s.via [.setup, .node, .req, .trk, .locks] stored :=
      State.via_withNode (State.via_refl _ _) (by decide) _ rfl rfl (.inr ⟨rfl, rfl⟩) (.inl (by decide)) id
    have hwindows := State.via_withReq hstored (by decide) windows.req id
    exact State.via_commitLocks (State.via_commitTracker hwindows (by decide)) (by decide)
  have hjudged : judged.OwnClaimed :=
    have ht := hs.via htaken (by decide)
    ht.mapPeers (Peer.judgedLost_station _) (Peer.judgedLost_claim _) (peersOrdered_judgedLost _ ht.ordered)
  have hrezero : judged.via [.pub, .trk] judged.commitRezero :=
    State.via_commitRezero (State.via_refl _ _) (by decide) (by decide)
  have hend : shared.via Part.nodeChange
      (timed.setNodeState (if timed.sens.stopLine then .stopped else .ready)) := by
    have htimed : shared.via Part.nodeChange timed :=
      State.via_ite (fun _ => State.via_startPeriodic (State.via_refl _ _) (by decide)) (fun _ => State.via_refl _ _)
    exact State.via_setNodeState htimed (by decide) (by decide) (by decide) (by decide) _
  exact (hjudged.via hrezero (by decide)).recompute.via hend (by decide)

theorem State.ShareKept.commit (hs : s.ShareKept) : s.commit.ShareKept := by
  have hclear : s.via [.node, .pub] (s.clearFault .setupError) := by simp
  have hs := hs.via hclear (by decide)
  unfold State.commit
  dsimp only
  split
  · next f _ =>
    have hfails : (s.clearFault .setupError).via [.setup, .node, .pub] ((s.clearFault .setupError).commitFails f) := by
      simp
    exact hs.via hfails (by decide)
  · exact hs.commitSucceeds

theorem State.ShareKept.takeItem (hs : s.ShareKept) (r : ItemRecord) : (s.takeItem r).ShareKept := by
  have hstored : ∀ x b, (s.withNode { s.node with items := x, badItems := b }).ShareKept := fun x b =>
    hs.via (ps := [.setup, .node]) (State.via_withNode (State.via_refl _ _) (by decide) _ rfl rfl (.inr ⟨rfl, rfl⟩)
      (.inl (by decide)) id) (by decide)
  unfold State.takeItem
  split
  · exact hs
  · split
    · dsimp only
      split
      · exact (hstored _ _).commit
      · exact hstored _ _
    · exact hstored _ _

theorem State.ShareKept.takeSetupFrame (hs : s.ShareKept) (f : RxFrame) : (s.takeSetupFrame f).ShareKept := by
  unfold State.takeSetupFrame
  induction (f.setup?).getD [] generalizing s with
  | nil => exact hs
  | cons r rest ih => exact ih (hs.takeItem r)

/-! ### Every step -/

theorem State.ShareKept.finish (hs : s.ShareKept) : s.finish.ShareKept :=
  hs.via (State.via_finish (State.via_refl Part.publication s) (by decide) (by decide)) (by decide)

/-- R209, R135: after a reset the Peer Table is empty and the grant 0. -/
theorem State.isReset.shareKept (h : s.isReset t) : t.ShareKept := by
  obtain ⟨cause, prior, pins, rfl⟩ := h
  exact ⟨⟨⟨List.Pairwise.nil, fun _ hp => nomatch hp⟩, fun _ hp => nomatch hp⟩, le_rfl⟩

theorem State.ShareKept.conclude (hs : s.ShareKept) : s.conclude.ShareKept := by
  unfold State.conclude
  split
  · exact State.isReset.shareKept (s := s) ⟨_, _, _, rfl⟩
  · exact hs.finish

theorem handled_shareKept {row : Instr} {act : RxFrame → State → State} (hs : s.ShareKept)
    (hact : ∀ f (u : State), u.ShareKept → (act f u).ShareKept) (h : handled row act s = .next t) : t.ShareKept := by
  unfold handled at h
  split at h
  · obtain rfl := Host.Outcome.next.inj h
    have hdrop : s.via [.rx, .line] s.dropHeld := by simp
    exact (hact _ _ (hs.via hdrop (by decide))).finish
  · obtain rfl := Host.Outcome.next.inj h
    exact hs

/-- A command that touches none of the parts that the sharing is read from keeps it, or resets the block. -/
theorem exec_shareKept_of_untouched {i : Instr} (hs : s.ShareKept) (h : exec i s = .next t)
    (hi : ∀ p ∈ Part.sharing, p ∉ i.touches) : t.ShareKept := by
  rcases exec_via h with hvia | ⟨-, hreset⟩
  · exact hs.via hvia hi
  · exact hreset.shareKept

theorem exec_shareKept {i : Instr} (hs : s.ShareKept) (h : exec i s = .next t) : t.ShareKept := by
  cases i with
  | powerOn pins | supplyDip pins | resetLine pins =>
    exact (exec_isReset_of_mem (pins := pins) (by simp) h).shareKept
  | agingStep n =>
    obtain rfl := Host.Outcome.next.inj h
    exact (hs.agingStep n).finish
  | txComplete =>
    obtain rfl := Host.Outcome.next.inj h
    split
    · exact hs.frameSent.conclude
    · exact hs
  | publishHandled => exact handled_shareKept hs (fun f _ hu => hu.takePublication f) h
  | setupHandled => exact handled_shareKept hs (fun f _ hu => hu.takeSetupFrame f) h
  | _ => exact exec_shareKept_of_untouched hs h (of_decide_eq_true rfl)

/-- A bit time makes the entries older and leaves the arbiter's record. -/
theorem State.ShareKept.tick (hs : s.ShareKept) : s.tick.ShareKept := by
  have haged := hs.mapPeers (f := Peer.older ((s.clockUs + s.bitUs) / 1000)) (fun _ => rfl) (Peer.older_claim _)
    (peersOrdered_map (f := Peer.older _) (fun _ => rfl) (fun _ h => h) hs.ordered)
  exact ⟨⟨haged.ordered, haged.claim⟩, hs.grant⟩

theorem step_shareKept (hs : s.ShareKept) (h : step s = .next t) : t.ShareKept := by
  unfold step at h
  split at h
  · obtain rfl := Host.Outcome.next.inj h
    exact hs.tick
  · next c rest _ =>
    have hrest : (s.withPending rest).ShareKept := ⟨⟨hs.ordered, hs.claim⟩, hs.grant⟩
    exact exec_shareKept hrest h

end

/-- Settles O9: the classes one by one are the equations of a grant, the own grant is within the own published claim by
what every step keeps (`step_shareKept`), and the counted grants are within the capacity by `sum_grants_le`. -/
theorem grantsFollowTheClassesWithinClaimAndCapacity : Obligations.GrantsFollowTheClassesWithinClaimAndCapacity := by
  refine ⟨fun cap ps k => ⟨grantOf_none cap ps rfl, ?_, ?_, ?_⟩, fun s t hsound hs h => ?_, sum_grants_le⟩
  · exact grantOf_some cap ps (c := ⟨.guard, k⟩) ShareClass.noConfusion
  · exact grantOf_some cap ps (c := ⟨.work, k⟩) ShareClass.noConfusion
  · exact grantOf_some cap ps (c := ⟨.move, k⟩) ShareClass.noConfusion
  · exact (step_shareKept (.of_sound hsound hs) h).grant

end Sys2Proof.Machine

/-! ## One step, and what every command and every step keeps -/

namespace Sys2Proof.Machine

/-- Settles O1: the front command is what `step` runs. -/
theorem stepRunsTheFrontCommand : Obligations.StepRunsTheFrontCommand := by
  intro c rest s h
  rw [step, h]

/-- Settles O2: an idle step is `State.tick`, which runs each record down and puts what is due into the queue. -/
theorem stepOnAnEmptyQueueIsOneBitTime : Obligations.StepOnAnEmptyQueueIsOneBitTime := by
  intro s h
  have hstep : step s = .next s.tick := by rw [step, h]
  exact ⟨s.tick, hstep, rfl, rfl, rfl, rfl, rfl, rfl, rfl, rfl, rfl, rfl, rfl, rfl, rfl, rfl, rfl, rfl⟩

/-- Settles O3: every command answers (`exec_answers`), and it touches its own parts alone or resets (`exec_via`). -/
theorem commandsAnswerAndLeaveWhatTheyDoNotTouch : Obligations.CommandsAnswerAndLeaveWhatTheyDoNotTouch := by
  intro i s
  obtain ⟨t, ht⟩ := exec_answers i s
  refine ⟨t, ht, ?_⟩
  rcases exec_via ht with hvia | ⟨hreset, cause, prior, pins, rfl⟩
  · exact .inl hvia.1
  · exact .inr ⟨hreset, cause, prior, pins, rfl⟩

theorem State.tick_sound {s : State} (hs : s.sound) : s.tick.sound := ⟨s.tick_bounded hs.1, s.tick_settled hs.2⟩

/-- Settles O5: a bit time keeps the bounds (`State.tick_sound`), and so does every command (`exec_bounded`,
`exec_settled`), which the waiting commands do not enter. -/
theorem everyStepKeepsTheStateSound : Obligations.EveryStepKeepsTheStateSound := by
  intro s t hs h
  unfold step at h
  split at h
  · obtain rfl := Host.Outcome.next.inj h
    exact State.tick_sound hs
  · next c rest _ =>
    have hrest : (s.withPending rest).sound := hs
    exact ⟨exec_bounded h hrest.1, exec_settled h hrest.2⟩

/-- Settles O6: what every step keeps of the sharing (`step_shareKept`) holds the grant within the claim. -/
theorem everyStepKeepsTheGrantWithinTheClaim : Obligations.EveryStepKeepsTheGrantWithinTheClaim :=
  fun _ _ hsound hs h => (step_shareKept (.of_sound hsound hs) h).shareSound

/-- R1, R2, R5: a reset leaves a winch node no joints, in UNKNOWN. -/
theorem State.isReset.pictureSound {s t : State} (h : s.isReset t) : t.pictureSound := by
  obtain ⟨cause, prior, pins, rfl⟩ := h
  intro _
  refine ⟨rfl, List.forall_mem_nil _, ⟨List.nodup_nil, List.forall_mem_nil _, fun j h1 hj => ?_⟩,
    ⟨rfl, rfl, List.forall_mem_nil _⟩, fun _ => ⟨rfl, rfl⟩⟩
  have hnone : j ≤ 0 := hj
  omega

theorem State.reset_isReset : State.reset.isReset State.reset := ⟨.powerOn, .unknown, Straps.reset, rfl⟩

/-- Settles O4: the reset values meet the three invariants. -/
theorem resetStateIsSound : Obligations.ResetStateIsSound :=
  ⟨⟨State.bounded_afterReset .., State.settled_afterReset ..⟩,
    State.reset_isReset.shareKept.shareSound, State.reset_isReset.pictureSound⟩

end Sys2Proof.Machine

/-! ## The joint picture through a step (R1, R2, R10, R12)

`Tracker.InOrder su e k` is the picture's invariant with the figure that E is to be made explicit, so that it can be
followed through the middle of an event, where the readings have moved and the attribution has not been made yet. Every
operation of the tracker keeps it at the figure that the event ends with; every other operation leaves what it reads. -/

namespace Sys2Proof.Machine

/-! ### The invariant, with its figure for E -/

/-- R8: the slide of a joint in a setup. -/
def Setup.slide (su : Setup) (j : Nat) : Nat := (su.joints.getD (j - 1) { slide := 0, pitch := 1, tol := 0 }).slide

/-- The picture of a tracker is in order under a setup and accounts for the extension `e` (R1, R2, R10, R12). -/
structure Tracker.InOrder (su : Setup) (e : Int) (k : Tracker) : Prop where
  count : k.joints.length = su.joints.length
  order : k.pictured su.slide
  tracking : k.state = .tracking → (k.extSum : Int) + k.residue = e ∧ k.residue.natAbs ≤ su.slipTol
  suspended : k.state = .suspended → (k.extSum : Int) + k.residue = k.es
  unknown : k.state = .unknown → k.stack = [] ∧ k.residue = 0 ∧ ∀ r ∈ k.joints, r = JointRec.closed

/-- R201: the node has not committed its setup since its reset. -/
def State.uncommitted (s : State) : Prop := s.node.state = .listen ∨ s.node.state = .setup

/-- What every step keeps of a winch node's picture, with the figure `e` in the place of E. -/
structure State.PicturedAt (s : State) (e : Int) : Prop where
  slides : ∀ g ∈ s.node.setup.joints, 1 ≤ g.slide
  inOrder : s.trk.InOrder s.node.setup e
  fresh : s.uncommitted → s.trk.joints = [] ∧ s.trk.state = .unknown

theorem State.pictureSound_iff (s : State) : s.pictureSound ↔ (s.role = some .winch → s.PicturedAt s.E) := by
  refine forall_congr' fun _ => ⟨fun ⟨hcount, hslides, horder, hacc, hfresh⟩ => ?_, fun h => ?_⟩
  · refine ⟨hslides, ⟨hcount, horder, fun ht => ?_, fun ht => ?_, fun ht => ?_⟩, hfresh⟩
    all_goals rw [State.accounted, ht] at hacc; exact hacc
  · refine ⟨h.inOrder.count, h.slides, h.inOrder.order, ?_, h.fresh⟩
    unfold State.accounted
    split
    · next ht => exact h.inOrder.tracking ht
    · next ht => exact h.inOrder.suspended ht
    · next ht => exact h.inOrder.unknown ht

/-! ### The tracker's own operations -/

theorem Setup.one_le_slide {su : Setup} (h : ∀ g ∈ su.joints, 1 ≤ g.slide) {j : Nat} (h1 : 1 ≤ j)
    (hj : j ≤ su.joints.length) : 1 ≤ su.slide j := by
  have hlt : j - 1 < su.joints.length := by omega
  rw [Setup.slide, List.getD_eq_getElem _ _ hlt]
  exact h _ (List.getElem_mem hlt)

theorem sum_map_closed (l : List JointRec) : ((l.map fun _ => JointRec.closed).map JointRec.ext).sum = 0 := by
  simp [JointRec.closed]

namespace Tracker

variable {su : Setup} {e : Int} {k u : Tracker}

/-- R2, R11, R14, R15: a tracker with every joint CLOSED, an empty stack and no residue accounts for 0. -/
theorem inOrder_of_cleared (hcount : k.joints.length = su.joints.length)
    (hjoints : u.joints = k.joints.map fun _ => JointRec.closed) (hstack : u.stack = []) (hres : u.residue = 0)
    (ht : u.state = .tracking → e = 0) (hes : u.state = .suspended → u.es = 0) : u.InOrder su e := by
  have hsum : u.extSum = 0 := by rw [extSum, hjoints, sum_map_closed]
  have horder : u.pictured su.slide := by
    have hk := pictured_cleared su.slide k
    unfold pictured joint at hk ⊢
    rw [hstack, hjoints]
    exact hk
  refine ⟨by rw [hjoints, List.length_map, hcount], horder, fun h => ?_, fun h => ?_, fun _ => ⟨hstack, hres, ?_⟩⟩
  · rw [hsum, hres, ht h]; simp
  · rw [hsum, hres, hes h]; rfl
  · simp [hjoints]

/-- R6 to R10: an attribution within SLIP_TOL moves the figure by the change. -/
theorem InOrder.attribute (h : k.InOrder su e) (hslides : ∀ g ∈ su.joints, 1 ≤ g.slide) (free : Nat → Bool) {c : Int}
    (hk : k.state = .tracking) (hres : (k.attribute su.slide free c).residue.natAbs ≤ su.slipTol) :
    (k.attribute su.slide free c).InOrder su (e + c) := by
  have hspec := attribute_spec free c h.order fun j h1 hj => Setup.one_le_slide hslides h1 (h.count ▸ hj)
  have hstate : (k.attribute su.slide free c).state = .tracking := by rw [hspec.rest]; exact hk
  obtain ⟨hsum, -⟩ := h.tracking hk
  refine ⟨hspec.length.trans h.count, hspec.pictured, fun _ => ⟨?_, hres⟩, fun hs => ?_, fun hs => ?_⟩
  · rw [hspec.sum, hsum]
  · rw [hstate] at hs; cases hs
  · rw [hstate] at hs; cases hs

/-- R12: a suspension keeps the figure as the suspension extension. -/
theorem InOrder.suspend (h : k.InOrder su e) (hk : k.state = .tracking) (e' : Int) :
    InOrder su e' { k with state := .suspended, es := e, leftBy := none } :=
  ⟨h.count, h.order, Tracking.noConfusion, fun _ => (h.tracking hk).1, Tracking.noConfusion⟩

/-- R14: a resumption takes what the extension has moved by into the residue. -/
theorem InOrder.resume (h : k.InOrder su e) (hk : k.state = .suspended) {e' : Int}
    (htol : (k.residue + (e' - k.es)).natAbs ≤ su.slipTol) :
    InOrder su e' { k with residue := k.residue + (e' - k.es), state := .tracking } := by
  refine ⟨h.count, h.order, fun _ => ⟨?_, htol⟩, Tracking.noConfusion, Tracking.noConfusion⟩
  have hsum := h.suspended hk
  show (k.extSum : Int) + (k.residue + (e' - k.es)) = e'
  omega

/-- What the figure is makes no difference outside TRACKING. -/
theorem InOrder.of_not_tracking (h : k.InOrder su e) (hk : k.state ≠ .tracking) (e' : Int) : k.InOrder su e' :=
  ⟨h.count, h.order, fun ht => absurd ht hk, h.suspended, h.unknown⟩

/-- R22: the datum offset is no part of the picture. -/
theorem InOrder.withDatum (h : k.InOrder su e) (d : Int) : InOrder su e { k with datumOffset := d } :=
  ⟨h.count, h.order, h.tracking, h.suspended, h.unknown⟩

end Tracker

/-! ### What leaves the picture -/

/-- The parts that the picture and its figure are read from, the node state aside. -/
def Part.picture : List Part := [.straps, .setup, .sens, .peers, .trk]

/-- A node that commits leaves its uncommitted states until its next reset. -/
def State.staysCommitted (s t : State) : Prop := t.uncommitted → s.uncommitted

section
variable {ps : List Part} {s t u : State} {e : Int}

theorem State.staysCommitted_of_via (h : s.via ps t) (hps : Part.mode ∉ ps) : s.staysCommitted t := by
  have hstate : t.node.state = s.node.state := (h.same .mode hps).1
  unfold State.staysCommitted State.uncommitted
  rw [hstate]
  exact id

theorem State.staysCommitted.trans (h : s.staysCommitted t) (k : t.staysCommitted u) : s.staysCommitted u :=
  fun hu => h (k hu)

theorem State.staysCommitted_of_state (h : t.node.state ≠ .listen) (h' : t.node.state ≠ .setup) : s.staysCommitted t :=
  fun hu => absurd hu (not_or.mpr ⟨h, h'⟩)

theorem State.via_role (h : s.via ps t) (hps : Part.straps ∉ ps) : t.role = s.role := by
  have hstraps : t.node.straps = s.node.straps := (h.same .straps hps).1
  unfold State.role
  rw [hstraps]

theorem State.via_mirror (h : s.via ps t) (hstraps : Part.straps ∉ ps) (hpeers : Part.peers ∉ ps) (r : Role) :
    t.mirror r = s.mirror r := by
  have hst : t.node.straps = s.node.straps := (h.same .straps hstraps).1
  have hp : t.peers = s.peers := h.same .peers hpeers
  unfold State.mirror State.station
  rw [hst, hp]

theorem State.via_strokeInUse (h : s.via ps t) (hstraps : Part.straps ∉ ps) (hpeers : Part.peers ∉ ps) :
    t.strokeInUse = s.strokeInUse := by
  unfold State.strokeInUse
  rw [State.via_mirror h hstraps hpeers]

theorem State.PicturedAt.of_same (hs : s.PicturedAt e) (hsetup : t.node.setup = s.node.setup) (htrk : t.trk = s.trk)
    (hstays : s.staysCommitted t) : t.PicturedAt e := by
  refine ⟨hsetup ▸ hs.slides, ?_, fun hu => ?_⟩
  · rw [htrk, hsetup]; exact hs.inOrder
  · rw [htrk]; exact hs.fresh (hstays hu)

theorem State.PicturedAt.via (hs : s.PicturedAt e) (h : s.via ps t) (hsetup : Part.setup ∉ ps) (htrk : Part.trk ∉ ps)
    (hstays : s.staysCommitted t) : t.PicturedAt e :=
  hs.of_same (h.same .setup hsetup).1 (h.same .trk htrk) hstays

/-- A command that leaves what the picture is read from keeps it. -/
theorem State.pictureSound_via (hs : s.pictureSound) (h : s.via ps t) (hps : ∀ p ∈ Part.picture, p ∉ ps)
    (hstays : s.staysCommitted t) : t.pictureSound := by
  rw [State.pictureSound_iff] at hs ⊢
  intro hrole
  have hstraps := hps .straps (by decide)
  have hpeers := hps .peers (by decide)
  have htrk : t.trk = s.trk := h.same .trk (hps _ (by decide))
  have hsens : t.sens = s.sens := h.same .sens (hps _ (by decide))
  have hE : t.E = s.E := by rw [State.E, State.E, hsens, htrk, State.via_strokeInUse h hstraps hpeers]
  rw [State.via_role h hstraps] at hrole
  rw [hE]
  exact (hs hrole).via h (hps _ (by decide)) (hps _ (by decide)) hstays

theorem State.E_withSens (s : State) (x : Sensors) (h : x.payout = s.sens.payout) : (s.withSens x).E = s.E := by
  show x.payout - s.strokeInUse - s.trk.ropeOffset = _
  rw [h]
  rfl

/-- A reading other than the payout is no part of the picture. -/
theorem State.pictureSound_withSens (hs : s.pictureSound) (x : Sensors) (h : x.payout = s.sens.payout) :
    (s.withSens x).pictureSound := by
  rw [State.pictureSound_iff] at hs ⊢
  intro hrole
  rw [State.E_withSens s x h]
  exact (hs hrole).of_same rfl rfl id

/-- A joint in the table tells that the setup has been committed. -/
theorem State.PicturedAt.committed_of_joints (hs : s.PicturedAt e) (h : s.trk.joints ≠ []) : ¬s.uncommitted :=
  fun hu => h (hs.fresh hu).1

theorem State.PicturedAt.committed_of_state (hs : s.PicturedAt e) (h : s.trk.state ≠ .unknown) : ¬s.uncommitted :=
  fun hu => h (hs.fresh hu).2

/-- What is left to show where an operation replaces the tracker of a committed node. -/
theorem State.PicturedAt.of_trk (hs : s.PicturedAt e) (h : s.via ps t) (hsetup : Part.setup ∉ ps)
    (hmode : Part.mode ∉ ps) (hc : ¬s.uncommitted) {e' : Int} (hk : t.trk.InOrder s.node.setup e') : t.PicturedAt e' := by
  have hset : t.node.setup = s.node.setup := (h.same .setup hsetup).1
  exact ⟨hset ▸ hs.slides, hset ▸ hk, fun hu => absurd (State.staysCommitted_of_via h hmode hu) hc⟩

end

/-! ### The node state after an operation that changes it (R203) -/

theorem State.setNodeState_node (new : NodeState) (s : State) :
    (s.setNodeState new).node = { s.node with state := new } := by
  have hvia : ((s.withNode { s.node with state := new }).signal).via [.pub, .drv] (s.setNodeState new) := by
    unfold State.setNodeState
    simp (maxDischargeDepth := 6)
  exact hvia.same .node (by decide)

@[simp] theorem State.setNodeState_state (new : NodeState) (s : State) : (s.setNodeState new).node.state = new := by
  rw [State.setNodeState_node]

theorem State.faultWith_state (k : FaultKind) (s : State) : (s.faultWith k).node.state = .fault := by
  unfold State.faultWith
  dsimp only
  split
  · next h => exact h
  · exact State.setNodeState_state _ _

section
variable {s t u : State}

theorem State.staysCommitted_refl (s : State) : s.staysCommitted s := id

theorem State.staysCommitted_setNodeState {new : NodeState} (h : new ≠ .listen) (h' : new ≠ .setup) :
    s.staysCommitted (u.setNodeState new) :=
  State.staysCommitted_of_state (by simpa using h) (by simpa using h')

theorem State.staysCommitted_compareRole (accepted : Option Nat) (s : State) :
    s.staysCommitted (s.compareRole accepted) := by
  unfold State.compareRole
  split
  · split
    · exact State.staysCommitted_of_state (by simp [State.roleConflict, State.faultWith_state])
        (by simp [State.roleConflict, State.faultWith_state])
    · exact id
  · exact id

theorem State.staysCommitted_stopAsserted (s : State) : s.staysCommitted s.stopAsserted := by
  unfold State.stopAsserted
  split
  · exact State.staysCommitted_setNodeState (by decide) (by decide)
  · exact State.staysCommitted_setNodeState (by decide) (by decide)
  · exact State.staysCommitted_setNodeState (by decide) (by decide)
  · exact State.staysCommitted_refl s

theorem State.staysCommitted_stopReleased (s : State) : s.staysCommitted s.stopReleased := by
  unfold State.stopReleased
  split
  · exact State.staysCommitted_setNodeState (by decide) (by decide)
  · exact id

theorem State.staysCommitted_actBroadcast (b : Broadcast) (s : State) : s.staysCommitted (s.actBroadcast b) := by
  have hhalt : s.via Part.ending s.halted := by simp (maxDischargeDepth := 40) [Part.ending, Part.publication]
  cases b with
  | halt => exact State.staysCommitted_of_via hhalt (by decide)
  | start =>
    show s.staysCommitted s.started
    unfold State.started
    split
    · exact State.staysCommitted_setNodeState (by decide) (by decide)
    · exact id

theorem State.staysCommitted_takeBroadcast (b : Broadcast) (s : State) : s.staysCommitted (s.takeBroadcast b) := by
  have hhold : s.via [.node, .drv] (s.holdBroadcast b) := by simp
  unfold State.takeBroadcast
  split
  · exact State.staysCommitted_of_via hhold (by decide)
  · exact State.staysCommitted_actBroadcast b s

theorem State.staysCommitted_takePark (e : ReqEntry) (s : State) : s.staysCommitted (takePark e s) := by
  have hreply : ∀ res, s.staysCommitted (s.reply e res) := fun res =>
    State.staysCommitted_of_via (ps := [.line, .req]) (by simp) (by decide)
  have hbegin : s.staysCommitted (s.beginPark e) := State.staysCommitted_setNodeState (by decide) (by decide)
  unfold takePark
  repeat' split
  all_goals first
    | exact hreply _
    | exact hbegin

theorem State.staysCommitted_duplicateStation (s : State) : s.staysCommitted s.duplicateStation :=
  State.staysCommitted_of_state (by simp [State.duplicateStation, State.withQueue, State.faultWith_state])
    (by simp [State.duplicateStation, State.withQueue, State.faultWith_state])

theorem State.staysCommitted_frameDone (chars : List Byte) (s : State) : s.staysCommitted (s.frameDone chars) := by
  have hrx : s.via [.rx, .line, .req] (s.withRx .hunting []) := by simp
  unfold State.frameDone
  dsimp only
  split
  · exact State.staysCommitted_of_via (State.via_receiveError hrx (by decide) (by decide) (by decide) _) (by decide)
  · next f _ =>
    have hgood : s.via [.rx, .line, .req] (s.withRx .hunting []).goodFrame := by simp
    split
    · exact (State.staysCommitted_of_via hgood (by decide)).trans (State.staysCommitted_duplicateStation _)
    · exact State.staysCommitted_of_via (ps := [.rx, .line, .req]) (by simp (maxDischargeDepth := 10)) (by decide)

theorem State.staysCommitted_wake (s : State) : s.staysCommitted s.wake := by
  have h : ∀ b : Bool, (if b then NodeState.run else .ready) ≠ .listen ∧ (if b then NodeState.run else .ready) ≠ .setup := by
    decide
  exact State.staysCommitted_setNodeState (h _).1 (h _).2

end

/-! ### The tracker's events -/

section
variable {ps : List Part} {s t : State} {e : Int}

/-- The picture is in order and accounts for E as it stands. -/
def State.Pictured (s : State) : Prop := s.PicturedAt s.E

theorem State.E_via (h : s.via ps t) (hstraps : Part.straps ∉ ps) (hsens : Part.sens ∉ ps) (hpeers : Part.peers ∉ ps)
    (hrope : t.trk.ropeOffset = s.trk.ropeOffset) : t.E = s.E := by
  have hs : t.sens = s.sens := h.same .sens hsens
  rw [State.E, State.E, hs, hrope, State.via_strokeInUse h hstraps hpeers]

theorem State.Pictured.via (hs : s.Pictured) (h : s.via ps t) (hps : ∀ p ∈ Part.picture, p ∉ ps)
    (hstays : s.staysCommitted t) : t.Pictured := by
  have htrk : t.trk = s.trk := h.same .trk (hps _ (by decide))
  have hE : t.E = s.E := State.E_via h (hps _ (by decide)) (hps _ (by decide)) (hps _ (by decide)) (by rw [htrk])
  unfold State.Pictured
  rw [hE]
  exact PicturedAt.via hs h (hps _ (by decide)) (hps _ (by decide)) hstays

/-- R10: a tracker fault clears the picture and leaves tracking. -/
theorem State.trackerFault_trk (k : FaultKind) (s : State) :
    (s.trackerFault k).trk = { s.trk.cleared with state := .unknown, leftBy := some k } := by
  have hend : ∀ u : State, u.via Part.ending (u.faultOp.checkPay false) := fun u => by
    simp (maxDischargeDepth := 10) [Part.ending, Part.publication]
  have hraised : s.via [.node, .pub, .line] (s.raiseStop k) := by simp
  have htrk : (s.raiseStop k).trk = s.trk := hraised.same .trk (by decide)
  rw [← htrk]
  exact (hend _).same .trk (by decide)

/-- R6, R10, R11: what a change of E makes of the tracker. -/
theorem State.trackChange_trk (c : Int) (s : State) :
    (s.trackChange c).trk
      = (let after := s.trk.attribute s.node.setup.slide s.freeInMirror c
         if after.residue.natAbs ≤ s.node.setup.slipTol then after
         else { s.trk.cleared with state := .unknown, leftBy := some (slipKind s.node.setup.slide c after) }) := by
  unfold State.trackChange
  dsimp only
  split
  · next h => rw [State.signalIf_trk, State.withTrk_trk]; exact (if_pos h).symm
  · next h => rw [State.trackerFault_trk]; exact (if_neg h).symm

/-- R6, R10, R11: a change of E while TRACKING moves the figure by the change. -/
theorem State.PicturedAt.trackChange (hs : s.PicturedAt e) (hk : s.trk.state = .tracking) (c : Int) :
    (s.trackChange c).PicturedAt (e + c) := by
  have hvia : s.via [.node, .line, .req, .pub, .trk, .drv, .op] (s.trackChange c) := by simp
  refine hs.of_trk hvia (by decide) (by decide) (hs.committed_of_state (by simp [hk])) ?_
  rw [State.trackChange_trk]
  dsimp only
  split
  · next hres => exact hs.inOrder.attribute hs.slides _ hk hres
  · exact Tracker.inOrder_of_cleared hs.inOrder.count rfl rfl rfl Tracking.noConfusion Tracking.noConfusion

theorem State.trackChange_ropeOffset (hs : s.PicturedAt e) (c : Int) :
    (s.trackChange c).trk.ropeOffset = s.trk.ropeOffset := by
  rw [State.trackChange_trk]
  dsimp only
  split
  · have hspec := Tracker.attribute_spec s.freeInMirror c hs.inOrder.order fun j h1 hj =>
      Setup.one_le_slide hs.slides h1 (hs.inOrder.count ▸ hj)
    rw [hspec.rest]
  · rfl

theorem State.Pictured.of_trackChange {before : State} (hs : s.PicturedAt before.E) (hk : s.trk.state = .tracking) :
    (s.trackChange (s.E - before.E)).Pictured := by
  have hvia : s.via [.node, .line, .req, .pub, .trk, .drv, .op] (s.trackChange (s.E - before.E)) := by simp
  have hE := State.E_via hvia (by decide) (by decide) (by decide) (State.trackChange_ropeOffset hs _)
  have hmoved := hs.trackChange hk (s.E - before.E)
  unfold State.Pictured
  rw [hE]
  rwa [show before.E + (s.E - before.E) = s.E by omega] at hmoved

theorem State.Pictured.suspend (hs : s.PicturedAt e) (hk : s.trk.state = .tracking) : (s.suspend e).Pictured :=
  hs.of_trk (ps := [.pub, .trk]) (by simp) (by decide) (by decide) (hs.committed_of_state (by simp [hk]))
    (hs.inOrder.suspend hk _)

/-- R14: both outcomes of the comparison. -/
theorem State.Pictured.resume (hs : s.PicturedAt e) (hk : s.trk.state = .suspended) : s.resume.Pictured := by
  have hc := hs.committed_of_state (by simp [hk])
  have hvia : s.via [.pub, .trk] s.resume := by simp
  refine hs.of_trk hvia (by decide) (by decide) hc ?_
  unfold State.resume
  dsimp only
  split
  · next htol => exact hs.inOrder.resume hk htol.2
  · exact Tracker.inOrder_of_cleared hs.inOrder.count rfl rfl rfl Tracking.noConfusion Tracking.noConfusion

/-- R15: at a re-zero E is 0. -/
theorem State.E_of_rezero (h : s.via ps t) (hstraps : Part.straps ∉ ps) (hsens : Part.sens ∉ ps)
    (hpeers : Part.peers ∉ ps) (hrope : t.trk.ropeOffset = s.sens.payout - s.strokeInUse) : t.E = 0 := by
  have hs : t.sens = s.sens := h.same .sens hsens
  rw [State.E, hs, hrope, State.via_strokeInUse h hstraps hpeers, sub_self]

/-- R17: a re-zero from UNKNOWN leaves the cleared picture, which accounts for the new E. -/
theorem State.rezeroUnknown_inOrder {su : Setup} (hcount : s.trk.joints.length = su.joints.length) :
    s.rezeroUnknown.trk.InOrder su s.rezeroUnknown.E := by
  have hvia : s.via [.pub, .trk] s.rezeroUnknown := by simp
  have hrope : s.rezeroUnknown.trk.ropeOffset = s.sens.payout - s.strokeInUse := by
    unfold State.rezeroUnknown; dsimp only; split <;> rfl
  rw [State.E_of_rezero hvia (by decide) (by decide) (by decide) hrope]
  unfold State.rezeroUnknown
  dsimp only
  split
  · exact Tracker.inOrder_of_cleared hcount rfl rfl rfl (fun _ => rfl) Tracking.noConfusion
  · exact Tracker.inOrder_of_cleared hcount rfl rfl rfl Tracking.noConfusion (fun _ => rfl)

theorem State.Pictured.rezeroUnknown (hs : s.PicturedAt e) (hj : s.trk.joints ≠ []) : s.rezeroUnknown.Pictured :=
  hs.of_trk (ps := [.pub, .trk]) (by simp) (by decide) (by decide) (hs.committed_of_joints hj)
    (State.rezeroUnknown_inOrder hs.inOrder.count)

/-- R4, R6, R12, R14, R17: the mirrors have moved, from a state whose E was `before.E`. -/
theorem State.Pictured.trackMirrors {before : State} (hs : s.PicturedAt before.E) :
    (State.trackMirrors before s).Pictured := by
  have hstands : s.trk.state ≠ .tracking → s.Pictured := fun hk =>
    ⟨hs.slides, hs.inOrder.of_not_tracking hk _, hs.fresh⟩
  unfold State.trackMirrors
  split
  · next hk =>
    split
    · exact .of_trackChange hs hk
    · exact .suspend hs hk
  · next hk =>
    split
    · exact .resume hs hk
    · exact hstands (by simp [hk])
  · next hk =>
    split
    · next hcond => exact .rezeroUnknown hs (by simpa using (Bool.and_eq_true_iff.mp hcond).2)
    · exact hstands (by simp [hk])

/-- R3, R6: the rope has moved, from a state whose E was `before.E`. -/
theorem State.Pictured.trackRope {before : State} (hs : s.PicturedAt before.E) : (State.trackRope before s).Pictured := by
  unfold State.trackRope
  split
  · next hk => exact .of_trackChange hs hk
  · next hk => exact ⟨hs.slides, hs.inOrder.of_not_tracking hk _, hs.fresh⟩

theorem State.corrected_eq (s : State) (t : Tracker) : ∃ ev, s.corrected t = { t with event := ev } := by
  unfold State.corrected
  split
  · exact ⟨_, rfl⟩
  · exact ⟨t.event, rfl⟩

/-- R15 to R17: kelly home becomes active. -/
theorem State.Pictured.trackHome (hs : s.Pictured) : s.trackHome.Pictured := by
  have hvia : s.via [.pub, .trk] s.trackHome := by simp
  have hrezeroed : ∀ k : Tracker, s.trackHome.trk = k → s.trk.state ≠ .unknown →
      k.joints = s.trk.cleared.joints → k.stack = [] → k.residue = 0 →
      (k.state = .tracking → k.ropeOffset = s.sens.payout - s.strokeInUse) → (k.state = .suspended → k.es = 0) →
      s.trackHome.Pictured := by
    intro k hk hstate hjoints hstack hres hrope hes
    refine PicturedAt.of_trk hs hvia (by decide) (by decide) (PicturedAt.committed_of_state hs hstate) ?_
    rw [hk]
    refine Tracker.inOrder_of_cleared hs.inOrder.count hjoints hstack hres (fun ht => ?_) hes
    exact State.E_of_rezero hvia (by decide) (by decide) (by decide) (by rw [hk]; exact hrope ht)
  cases hk : s.trk.state with
  | tracking =>
    obtain ⟨ev, hev⟩ := s.corrected_eq s.rezeroed
    refine hrezeroed { s.rezeroed with event := ev } ?_ (by simp [hk]) rfl rfl rfl (fun _ => rfl) (fun hsus => ?_)
    · rw [State.trackHome, hk, ← hev]; rfl
    · exact absurd (hk.symm.trans hsus) (by decide)
  | suspended =>
    by_cases hav : s.strokeAvailable = true
    · obtain ⟨ev, hev⟩ := s.corrected_eq { s.rezeroed with es := 0 }
      refine hrezeroed { s.rezeroed with es := 0, event := ev } ?_ (by simp [hk]) rfl rfl rfl (fun _ => rfl) (fun _ => rfl)
      rw [State.trackHome, hk]
      dsimp only
      rw [if_pos hav, hev]
      rfl
    · refine hrezeroed ({ s.trk.cleared with state := .unknown }.write .trackingLost 0) ?_ (by simp [hk]) rfl rfl rfl
        Tracking.noConfusion Tracking.noConfusion
      rw [State.trackHome, hk]
      dsimp only
      rw [if_neg hav]
      rfl
  | unknown =>
    rw [State.trackHome, hk]
    dsimp only
    split
    · next hcond => exact .rezeroUnknown hs hcond.2
    · exact hs

end

/-! ### An asserted picture (R20, R21) -/

namespace Tracker

variable {slide : Nat → Nat}

/-- R21: joints opened in the order of a list. -/
def openAll (es : List (Nat × Nat)) (t : Tracker) : Tracker := es.foldl (fun t e => t.openJoint e.1 e.2) t

theorem rebuild_eq (es : List (Nat × Nat)) (t : Tracker) : t.rebuild es = t.cleared.openAll es := rfl

theorem openAll_cons (x : Nat × Nat) (es : List (Nat × Nat)) (t : Tracker) :
    t.openAll (x :: es) = (t.openJoint x.1 x.2).openAll es := rfl

/-- R20: every entry of a list names a joint of the table, with an extension within its slide. -/
def listable (slide : Nat → Nat) (n : Nat) (es : List (Nat × Nat)) : Prop :=
  ∀ x ∈ es, (1 ≤ x.1 ∧ x.1 ≤ n) ∧ 1 ≤ x.2 ∧ x.2 ≤ slide x.1

@[simp] theorem joints_length_openJoint (j x : Nat) (t : Tracker) : (t.openJoint j x).joints.length = t.joints.length :=
  t.length_setJoint j _

theorem joint_openJoint {t : Tracker} {j : Nat} (x : Nat) (hj : 1 ≤ j ∧ j ≤ t.joints.length) (i : Nat) (hi : 1 ≤ i) :
    (t.openJoint j x).joint i = if i = j then { opened := true, ext := x } else t.joint i := joint_setJoint _ hj i hi

theorem joint_openAll_other {es : List (Nat × Nat)} {t : Tracker} (h : listable slide t.joints.length es) {i : Nat}
    (hi : 1 ≤ i) (hother : ∀ x ∈ es, x.1 ≠ i) : (t.openAll es).joint i = t.joint i := by
  induction es generalizing t with
  | nil => rfl
  | cons x es ih =>
    obtain ⟨hx, hes⟩ := List.forall_mem_cons.mp h
    obtain ⟨hxi, hother⟩ := List.forall_mem_cons.mp hother
    rw [openAll_cons, ih (by rw [joints_length_openJoint]; exact hes) hother, joint_openJoint _ hx.1 i hi, if_neg hxi.symm]

theorem joint_openAll_of_mem {es : List (Nat × Nat)} {t : Tracker} (h : listable slide t.joints.length es)
    (hnodup : (es.map Prod.fst).Nodup) : ∀ x ∈ es, (t.openAll es).joint x.1 = { opened := true, ext := x.2 } := by
  induction es generalizing t with
  | nil => exact List.forall_mem_nil _
  | cons y es ih =>
    obtain ⟨hy, hes⟩ := List.forall_mem_cons.mp h
    obtain ⟨hnew, hnodup⟩ := List.nodup_cons.mp hnodup
    have hes' : listable slide (t.openJoint y.1 y.2).joints.length es := by
      rw [joints_length_openJoint]; exact hes
    refine List.forall_mem_cons.mpr ⟨?_, ih hes' hnodup⟩
    rw [openAll_cons, joint_openAll_other hes' hy.1.1, joint_openJoint _ hy.1 _ hy.1.1, if_pos rfl]
    exact fun x hx heq => hnew (heq ▸ List.mem_map_of_mem hx)

theorem stack_openAll (es : List (Nat × Nat)) (t : Tracker) :
    (t.openAll es).stack = (es.map Prod.fst).reverse ++ t.stack := by
  induction es generalizing t with
  | nil => rfl
  | cons x es ih => rw [openAll_cons, ih, List.map_cons, List.reverse_cons, List.append_assoc]; rfl

theorem openAll_rest (es : List (Nat × Nat)) (t : Tracker) :
    t.openAll es = { t with joints := (t.openAll es).joints, stack := (t.openAll es).stack } := by
  induction es generalizing t with
  | nil => rfl
  | cons x es ih => rw [openAll_cons, ih]; rfl

theorem rebuild_rest (es : List (Nat × Nat)) (t : Tracker) :
    t.rebuild es = { t with joints := (t.rebuild es).joints, stack := (t.rebuild es).stack, residue := 0 } :=
  openAll_rest es t.cleared

@[simp] theorem joints_length_openAll (es : List (Nat × Nat)) (t : Tracker) :
    (t.openAll es).joints.length = t.joints.length := by
  induction es generalizing t with
  | nil => rfl
  | cons x es ih => rw [openAll_cons, ih, joints_length_openJoint]

/-- R20, R21: joints that stand CLOSED, opened in order: the picture stays in order and grows by their extensions. -/
theorem openAll_spec {es : List (Nat × Nat)} {t : Tracker} (hp : t.pictured slide)
    (h : listable slide t.joints.length es) (hnodup : (es.map Prod.fst).Nodup)
    (hclosed : ∀ x ∈ es, t.joint x.1 = JointRec.closed) :
    (t.openAll es).pictured slide ∧ (t.openAll es).extSum = t.extSum + pictureSum es := by
  induction es generalizing t with
  | nil => exact ⟨hp, rfl⟩
  | cons x es ih =>
    obtain ⟨hx, hes⟩ := List.forall_mem_cons.mp h
    obtain ⟨hcx, hces⟩ := List.forall_mem_cons.mp hclosed
    obtain ⟨hnew, hnodup⟩ := List.nodup_cons.mp hnodup
    have hmoved := movedTo_openJoint hp hx.1 (by rw [hcx]; rfl) hx.2
    have hsum : (t.openJoint x.1 x.2).extSum = t.extSum + x.2 := by
      have := extSum_setJoint { opened := true, ext := x.2 } hx.1
      rw [hcx] at this
      exact this
    have hrest : ∀ y ∈ es, (t.openJoint x.1 x.2).joint y.1 = JointRec.closed := fun y hy => by
      have hne : y.1 ≠ x.1 := fun heq => hnew (heq ▸ List.mem_map_of_mem hy)
      rw [joint_openJoint _ hx.1 _ (hes y hy).1.1, if_neg hne]
      exact hces y hy
    obtain ⟨hpic, hext⟩ := ih hmoved.pictured (by rw [joints_length_openJoint]; exact hes) hnodup hrest
    refine ⟨hpic, ?_⟩
    rw [openAll_cons, hext, hsum, pictureSum, pictureSum, List.map_cons, List.sum_cons]
    omega

theorem joint_cleared (t : Tracker) (j : Nat) : t.cleared.joint j = JointRec.closed := by
  unfold joint cleared
  rw [List.getD_eq_getElem?_getD, List.getElem?_map]
  cases t.joints[j - 1]? <;> rfl

theorem extSum_cleared (t : Tracker) : t.cleared.extSum = 0 := sum_map_closed _

@[simp] theorem joints_length_cleared (t : Tracker) : t.cleared.joints.length = t.joints.length := List.length_map _

/-- R21: a picture rebuilt from a listable list without repetition. -/
theorem rebuild_spec {es : List (Nat × Nat)} {t : Tracker} (h : listable slide t.joints.length es)
    (hnodup : (es.map Prod.fst).Nodup) : (t.rebuild es).pictured slide ∧ (t.rebuild es).extSum = pictureSum es := by
  obtain ⟨hpic, hsum⟩ := openAll_spec (pictured_cleared slide t) (by simpa using h) hnodup fun x _ => t.joint_cleared x.1
  rw [extSum_cleared, Nat.zero_add] at hsum
  exact ⟨hpic, hsum⟩

end Tracker

/-- R20: what a list that passes its checks holds. -/
theorem State.listable_of_readPicture {s : State} {a : List Byte} {es : List (Nat × Nat)}
    (h : s.readPicture a = some es) :
    Tracker.listable s.node.setup.slide s.jointCount es ∧ (es.map Prod.fst).Nodup := by
  unfold State.readPicture at h
  dsimp only at h
  split at h
  · next hok =>
    obtain ⟨-, -, -, hall, hdistinct⟩ := hok
    obtain rfl := Option.some.inj h
    refine ⟨fun x hx => ?_, by simpa [distinctJoints] using hdistinct⟩
    have hx := List.all_eq_true.mp hall x hx
    obtain ⟨h1, h2, h3, h4⟩ := of_decide_eq_true hx
    exact ⟨⟨h1, h2⟩, h3, h4⟩
  · cases h

/-! ### The values of a commit (R202) -/

theorem heldItem_mem {items : List ((Nat × Nat) × Int)} {c i : Nat} {v : Int} (h : heldItem items c i = some v) :
    ((c, i), v) ∈ items := by
  obtain ⟨x, hx, rfl⟩ := Option.map_eq_some_iff.mp h
  have hkey : x.1 = (c, i) := by simpa using List.find?_some hx
  rw [← hkey]
  exact List.mem_of_find?_eq_some hx

theorem tableJoints_le {items : List ((Nat × Nat) × Int)} : (tableJoints items).getD 0 ≤ 5 := by
  unfold tableJoints
  split
  · split
    · simp only [Option.getD_some]; omega
    · simp
  · simp

theorem commitFailure_none {n : NodeCtl} (h : commitFailure n = none) :
    passMissing n.items = none ∧ passRange n.items = none := by
  have hboth : ∀ (a : Option SetupFailure) (b : Unit → Option SetupFailure), a.orElse b = none →
      a = none ∧ b () = none := fun a b hab => by
    cases a with
    | none => exact ⟨rfl, hab⟩
    | some x => cases hab
  obtain ⟨hfirst, hlast⟩ := hboth _ _ h
  exact ⟨(hboth _ _ hfirst).2, (hboth _ _ hlast).1⟩

/-- R202: a slide put in force by a commit that found no failure is within its range. -/
theorem committedSetup_slides {n : NodeCtl} (h : commitFailure n = none) :
    ∀ g ∈ (committedSetup n.items).joints, 1 ≤ g.slide := by
  intro g hg
  obtain ⟨i, hi, rfl⟩ := List.mem_map.mp hg
  obtain ⟨hmissing, hrange⟩ := commitFailure_none h
  have hi : i < (tableJoints n.items).getD 0 := List.mem_range.mp hi
  have hj5 : (tableJoints n.items).getD 0 ≤ 5 := tableJoints_le
  have hheld : ∃ v, heldItem n.items 0x02 (i + 1) = some v := by
    unfold passMissing at hmissing
    split at hmissing
    · cases hmissing
    · have hnone := List.find?_eq_none.mp (Option.map_eq_none_iff.mp hmissing) (0x02, i + 1)
        (List.mem_flatMap.mpr ⟨0x02, by simp, List.mem_map.mpr ⟨i, by simpa using hi, rfl⟩⟩)
      exact Option.isSome_iff_exists.mp (by simpa [Option.isNone_iff_eq_none, Option.isSome_iff_ne_none] using hnone)
  obtain ⟨v, hv⟩ := hheld
  have hin : itemInRange ((tableJoints n.items).getD 0) ((0x02, i + 1), v) = true := by
    have := List.find?_eq_none.mp (Option.map_eq_none_iff.mp hrange) _ (heldItem_mem hv)
    simpa using this
  have hspec : itemSpec 0x02 (i + 1)
      = some { code := 0x02, loIndex := 1, hiIndex := 5, lo := 1000, hi := 25000, step := 1 } := by
    have hi5 : i < 5 := by omega
    interval_cases i <;> rfl
  unfold itemInRange at hin
  rw [hspec] at hin
  have hlo : 1000 ≤ v := by
    simp only [Bool.or_eq_true, Bool.and_eq_true, decide_eq_true_eq] at hin
    rcases hin with hin | hin
    · omega
    · exact hin.1.1
  show 1 ≤ ((heldItem n.items 0x02 (i + 1)).getD 0).toNat
  rw [hv]
  simp only [Option.getD_some]
  omega

/-! ### Each event that writes what the picture is read from -/

section
variable {ps : List Part} {s t u : State}

/-- A winch node's picture is in order; `State.pictureSound` in the form in which events are followed. -/
theorem State.pictureSound_intro (h : s.role = some .winch → s.Pictured) : s.pictureSound := s.pictureSound_iff.mpr h

theorem State.pictureSound.pictured (hs : s.pictureSound) (hr : s.role = some .winch) : s.Pictured :=
  s.pictureSound_iff.mp hs hr

/-- R151: the tracker takes the mirrors of a Peer Table that has just changed. -/
theorem State.Pictured.handOn {before : State} (hs : s.PicturedAt before.E) (hr : s.role = some .winch)
    (accepted : Option Nat) : (State.handOn before accepted s).Pictured := by
  unfold State.handOn
  extract_lets judged taken thrust
  have hrec : s.via [.node, .pub, .share] s.recompute := by simp
  have hjudged : s.via ([.share] ++ Part.nodeChange) judged := by
    simp (maxDischargeDepth := 10) [judged, Part.nodeChange, Part.ending, Part.publication]
  have hstays : s.staysCommitted judged :=
    (State.staysCommitted_of_via hrec (by decide)).trans (State.staysCommitted_compareRole accepted _)
  have hwinch : judged.role = some .winch := (State.via_role hjudged (by decide)).trans hr
  have htracked := Pictured.trackMirrors (hs.via hjudged (by decide) (by decide) hstays)
  have htaken : taken.Pictured := by
    show (State.trackerTakes before judged).Pictured
    unfold State.trackerTakes
    rw [if_pos hwinch]
    refine htracked.via (ps := Part.ending) ?_ (by decide) (State.staysCommitted_of_via (ps := Part.ending) ?_ (by decide))
    all_goals simp (maxDischargeDepth := 10) [Part.ending, Part.publication]
  have hend : taken.via (.locks :: Part.ending) (State.opHandOn before accepted thrust) := by
    simp (maxDischargeDepth := 10) [thrust, Part.ending, Part.publication]
  exact htaken.via hend (by decide) (State.staysCommitted_of_via hend (by decide))

theorem State.pictureSound.handOn (hs : s.pictureSound) (x : List Peer) (accepted : Option Nat) :
    (State.handOn s accepted (s.withPeers x)).pictureSound := by
  refine State.pictureSound_intro fun hr => ?_
  have hvia : (s.withPeers x).via Part.handOn (State.handOn s accepted (s.withPeers x)) := by
    simp (maxDischargeDepth := 10) [Part.handOn, Part.nodeChange, Part.ending, Part.publication]
  have hrole : s.role = some .winch := (State.via_role hvia (by decide)).symm.trans hr
  have hmoved : (s.withPeers x).PicturedAt s.E := PicturedAt.of_same (hs.pictured hrole) rfl rfl id
  exact Pictured.handOn hmoved hrole accepted

theorem State.pictureSound.takePublication (hs : s.pictureSound) (f : RxFrame) : (s.takePublication f).pictureSound := by
  unfold State.takePublication
  split
  · exact hs
  · exact hs.handOn _ _

theorem State.pictureSound.agingStep (hs : s.pictureSound) (n : Nat) : (s.agingStep n).pictureSound := by
  unfold State.agingStep
  split
  · split
    · exact hs.handOn _ _
    · exact hs
  · exact hs

/-- R202: at a commit the tracker takes its joints CLOSED, and a re-zero may follow. -/
theorem State.Pictured.commitSucceeds (hs : s.Pictured) (hr : s.role = some .winch) (hun : s.uncommitted)
    (hok : commitFailure s.node = none) : s.commitSucceeds.Pictured := by
  have hstate : s.trk.state = .unknown := (hs.fresh hun).2
  unfold State.commitSucceeds
  extract_lets items oldPeriod node stored req windows taken judged shared timed
  have hrole : windows.role = some .winch := hr
  have htaken : taken.trk = { s.trk with joints := (committedSetup items).joints.map (fun _ => JointRec.closed), stack := [],
                                         residue := 0, ropeOffset := (committedSetup items).ropeOffset,
                                         datumOffset := (committedSetup items).datumOffset } := by
    have hlocks : windows.commitTracker.via [.locks] taken := by simp [taken]
    rw [show taken.trk = windows.commitTracker.trk from hlocks.same .trk (by decide), State.commitTracker, if_pos hrole]
    rfl
  have hsetup : taken.node.setup = committedSetup items := by
    have hvia : windows.via [.trk, .locks] taken := by simp [taken]
    exact congrArg NodeCtl.setup (hvia.same .node (by decide))
  have hjoints : taken.trk.joints.length = (committedSetup items).joints.length := by rw [htaken]; exact List.length_map _
  have hinorder : judged.commitRezero.trk.InOrder (committedSetup items) judged.commitRezero.E := by
    unfold State.commitRezero
    split
    · exact State.rezeroUnknown_inOrder hjoints
    · have hjudged := show judged.trk = _ from htaken
      refine Tracker.inOrder_of_cleared (k := taken.trk) hjoints ?_ ?_ ?_ (fun h => ?_) (fun h => ?_)
      · rw [hjudged, htaken]; simp
      · rw [hjudged]
      · rw [hjudged]
      · rw [hjudged, hstate] at h; cases h
      · rw [hjudged, hstate] at h; cases h
  have hrezero : judged.via [.pub, .trk] judged.commitRezero := by simp
  have hend : judged.commitRezero.via (.share :: Part.nodeChange)
      (timed.setNodeState (if timed.sens.stopLine then .stopped else .ready)) := by
    have hshared : judged.commitRezero.via (.share :: Part.nodeChange) shared := by
      simp (maxDischargeDepth := 10) [shared, Part.nodeChange, Part.ending, Part.publication]
    have htimed : judged.commitRezero.via (.share :: Part.nodeChange) timed :=
      State.via_ite (fun _ => State.via_startPeriodic hshared (by decide)) (fun _ => hshared)
    exact State.via_setNodeState htimed (by decide) (by decide) (by decide) (by decide) _
  have hfinal := hrezero.mono (qs := [.trk, .share] ++ Part.nodeChange) (by decide) |>.trans (hend.mono (by decide))
  have hset : (timed.setNodeState (if timed.sens.stopLine then .stopped else .ready)).node.setup = committedSetup items :=
    (hfinal.same .setup (by decide)).1.trans hsetup
  have htrk := hend.same .trk (by decide)
  refine ⟨?_, ?_, fun hu => ?_⟩
  · rw [hset]; exact committedSetup_slides hok
  · rw [hset, State.E_via hend (by decide) (by decide) (by decide) (congrArg Tracker.ropeOffset htrk), htrk]
    exact hinorder
  · have hnew : ∀ b : Bool, (if b then NodeState.stopped else .ready) ≠ .listen
        ∧ (if b then NodeState.stopped else .ready) ≠ .setup := by decide
    unfold State.uncommitted at hu
    rw [State.setNodeState_state] at hu
    exact absurd hu (not_or.mpr (hnew _))

theorem State.Pictured.commit (hs : s.Pictured) (hr : s.role = some .winch) (hun : s.uncommitted) : s.commit.Pictured := by
  have hclear : s.via [.node, .pub] (s.clearFault .setupError) := by simp
  have hs := hs.via hclear (by decide) (State.staysCommitted_of_via hclear (by decide))
  unfold State.commit
  dsimp only
  split
  · next f _ =>
    have hfails : (s.clearFault .setupError).via [.setup, .node, .pub] ((s.clearFault .setupError).commitFails f) := by
      simp
    have htrk := hfails.same .trk (by decide)
    unfold State.Pictured
    rw [State.E_via hfails (by decide) (by decide) (by decide) (by rw [htrk])]
    exact PicturedAt.of_same hs (by simp [State.commitFails]) htrk (State.staysCommitted_of_via hfails (by decide))
  · next hok => exact hs.commitSucceeds ((State.via_role hclear (by decide)).trans hr) (by simpa [State.uncommitted] using hun) hok

theorem State.Pictured.takeItem (hs : s.Pictured) (hr : s.role = some .winch) (r : ItemRecord) :
    (s.takeItem r).Pictured := by
  have hstored : ∀ x b, (s.withNode { s.node with items := x, badItems := b }).Pictured := fun _ _ =>
    PicturedAt.of_same hs rfl rfl id
  unfold State.takeItem
  split
  · exact hs
  · next hsetup =>
    split
    · dsimp only
      split
      · exact (hstored _ _).commit hr (.inr (not_not.mp hsetup))
      · exact hstored _ _
    · exact hstored _ _

theorem State.takeItem_role (r : ItemRecord) (s : State) : (s.takeItem r).role = s.role := by
  have hvia : s.via ([.setup, .req, .peers, .share, .trk, .locks] ++ Part.nodeChange) (s.takeItem r) := by
    simp [Part.nodeChange, Part.ending, Part.publication]
  exact State.via_role hvia (by decide)

theorem State.pictureSound.takeSetupFrame (hs : s.pictureSound) (f : RxFrame) : (s.takeSetupFrame f).pictureSound := by
  unfold State.takeSetupFrame
  induction (f.setup?).getD [] generalizing s with
  | nil => exact hs
  | cons r rest ih =>
    exact ih (State.pictureSound_intro fun hr =>
      have hr : s.role = some .winch := (s.takeItem_role r).symm.trans hr
      (hs.pictured hr).takeItem hr r)

/-- R21: an asserted picture that passes its checks accounts for E. -/
theorem State.Pictured.takeAssertPicture (hs : s.Pictured) (hc : ¬s.uncommitted) (e : ReqEntry) :
    (Machine.takeAssertPicture e s).Pictured := by
  have hreply : ∀ {v : State} res, v.Pictured → (v.reply e res).Pictured := fun res hv =>
    have hvia := State.via_reply (State.via_refl [.line, .req] _) (by decide) (by decide) e res .noReason []
    hv.via hvia (by decide) (State.staysCommitted_of_via hvia (by decide))
  unfold Machine.takeAssertPicture
  split
  · exact hreply _ hs
  · next es hread =>
    extract_lets r rebuilt built shown
    split
    · exact hreply _ hs
    · next hok =>
      refine hreply _ ?_
      obtain ⟨hlist, hnodup⟩ := State.listable_of_readPicture hread
      rw [State.jointCount, ← hs.inOrder.count] at hlist
      obtain ⟨hpic, hsum⟩ := Tracker.rebuild_spec hlist hnodup
      have hvia : s.via [.pub, .trk] ((s.withTrk shown).signal) := by simp
      have hlen : (s.trk.rebuild es).joints.length = s.node.setup.joints.length := by
        rw [Tracker.rebuild_eq, Tracker.joints_length_openAll, Tracker.joints_length_cleared, hs.inOrder.count]
      have htotal : ((s.trk.rebuild es).extSum : Int) + r = s.E := by simp only [hsum, r]; omega
      have hrope : shown.ropeOffset = s.trk.ropeOffset := by
        have : (s.trk.rebuild es).ropeOffset = s.trk.ropeOffset := by rw [Tracker.rebuild_rest]
        simp only [shown]; split <;> exact this
      have hE := State.E_via hvia (by decide) (by decide) (by decide) hrope
      unfold State.Pictured
      rw [hE]
      refine PicturedAt.of_trk hs hvia (by decide) (by decide) hc ?_
      have hres : r.natAbs ≤ s.node.setup.slipTol := not_lt.mp fun h => hok (.inr (.inr h))
      show shown.InOrder _ _
      simp only [shown]
      split
      · exact ⟨hlen, hpic, fun _ => ⟨htotal, hres⟩, Tracking.noConfusion, Tracking.noConfusion⟩
      · exact ⟨hlen, hpic, Tracking.noConfusion, fun _ => htotal, Tracking.noConfusion⟩

/-- R22, R23: the datum is no part of the picture. -/
theorem State.Pictured.takeSetDatum (hs : s.Pictured) (e : ReqEntry) : (Machine.takeSetDatum e s).Pictured := by
  unfold Machine.takeSetDatum
  split
  · have hvia := State.via_reply (State.via_refl [.line, .req] s) (by decide) (by decide) e .badArgs .noReason []
    exact hs.via hvia (by decide) (State.staysCommitted_of_via hvia (by decide))
  · extract_lets _ moved
    have hmoved : moved.Pictured := ⟨hs.slides, hs.inOrder.withDatum _, hs.fresh⟩
    have hend : moved.via Part.ending (((moved.checkPay false).judgeTool).reply e .done) := by
      simp (maxDischargeDepth := 10) [Part.ending, Part.publication]
    exact hmoved.via hend (by decide) (State.staysCommitted_of_via hend (by decide))

/-- R171: a node takes SET_DATUM and ASSERT_PICTURE past its commit alone. -/
theorem committed_of_gate {st : NodeState} (h : gate st Fn.assertPicture = .taken) : st ≠ .listen ∧ st ≠ .setup := by
  cases st <;> revert h <;> decide

end

/-! ### The own entry is no mirror (R152, R153) -/

/-- A selection that refuses a station does not see what is put in its place. -/
theorem filter_putPeer {c : Peer → Bool} {p : Peer} (hc : ∀ q : Peer, q.station = p.station → c q = false)
    (ps : List Peer) : (putPeer p ps).filter c = ps.filter c := by
  induction ps with
  | nil => simp [putPeer, hc p rfl]
  | cons q qs ih =>
    unfold putPeer
    split
    · simp [hc p rfl]
    · split
      · next heq => simp [hc p rfl, hc q (eq_of_beq heq).symm]
      · simp [List.filter_cons, ih]

theorem servingEntry_putPeer_own (role : Role) {own : Nat} {p : Peer} (hp : p.station = own) (ps : List Peer) :
    servingEntry own role (putPeer p ps) = servingEntry own role ps := by
  unfold servingEntry
  rw [filter_putPeer fun q hq => by simp [hq, hp]]

/-- A change of the entries that keeps station, role and presence keeps which of them serves. -/
theorem servingEntry_map {f : Peer → Peer} (hst : ∀ p, (f p).station = p.station) (hrole : ∀ p, (f p).role = p.role)
    (hpres : ∀ p, (f p).presence = p.presence) (own : Nat) (role : Role) (ps : List Peer) :
    servingEntry own role (ps.map f) = (servingEntry own role ps).map f := by
  have hheld : (ps.map f).filter (fun p => p.role == role && p.station != own)
      = (ps.filter fun p => p.role == role && p.station != own).map f := by
    rw [List.filter_map]
    congr 1
    refine List.filter_congr fun p _ => ?_
    simp [hst, hrole]
  have hlive : ∀ l : List Peer, (l.map f).find? Peer.live = (l.find? Peer.live).map f := fun l => by
    rw [List.find?_map]
    congr 2
    funext p
    simp [Peer.live, hpres]
  unfold servingEntry
  rw [hheld]
  dsimp only
  rw [hlive, List.head?_map]
  cases (ps.filter fun p => p.role == role && p.station != own).find? Peer.live <;> rfl

section
variable {ps : List Part} {s t u : State}

theorem State.Pictured.withPeers (hs : s.Pictured) (x : List Peer)
    (hT : (s.withPeers x).strokeInUse = s.strokeInUse) : (s.withPeers x).Pictured := by
  have hE : (s.withPeers x).E = s.E := by rw [State.E, hT]; rfl
  unfold State.Pictured
  rw [hE]
  exact PicturedAt.of_same hs rfl rfl id

theorem State.pictureSound.fillOwnEntry (hs : s.pictureSound) (payload : List Byte) :
    (s.fillOwnEntry payload).pictureSound := by
  unfold State.fillOwnEntry
  split
  · next p _ =>
    refine State.pictureSound_intro fun hr => ?_
    have hT : (s.withPeers (putPeer (acceptedPeer s.station p) s.peers)).strokeInUse = s.strokeInUse := by
      have hown := servingEntry_putPeer_own .crowd (rfl : (acceptedPeer s.station p).station = s.station) s.peers
      exact congrArg (fun m : Option Peer => ((m.bind Peer.crowd?).map (·.stroke)).getD 0) hown
    have hput := (hs.pictured hr).withPeers _ hT
    exact hput.via (ps := [.share]) (State.via_withShare (State.via_refl _ _) (by decide) _) (by decide) id
  · exact hs

theorem State.pictureSound.published (hs : s.pictureSound) (n : Nat) (payload : List Byte) :
    (s.published n payload).pictureSound := by
  unfold State.published
  extract_lets filled timed
  have hend : filled.via [.node, .share, .line, .req, .pub, .op] (timed.recompute.opPublished n) := by
    have htimed : filled.via [.node, .share, .line, .req, .pub, .op] timed :=
      State.via_ite (fun _ => State.via_refl _ _) (fun _ => State.via_startPeriodic (State.via_refl _ _) (by decide))
    simp (maxDischargeDepth := 6) [htimed]
  exact State.pictureSound_via (hs.fillOwnEntry payload) hend (by decide) (State.staysCommitted_of_via hend (by decide))

theorem State.pictureSound.report (hs : s.pictureSound) (f : TxFrame) : (s.report f).pictureSound := by
  have hother : ∀ {u : State}, s.via [.line, .req, .op] u → u.pictureSound := fun h =>
    State.pictureSound_via hs h (by decide) (State.staysCommitted_of_via h (by decide))
  unfold State.report
  split
  · exact hs.published _ _
  · exact hother (State.via_ite (fun _ => by simp) (fun _ => by simp))
  all_goals exact hother (by simp)

theorem State.pictureSound.frameSent (hs : s.pictureSound) : s.frameSent.pictureSound := by
  unfold State.frameSent
  split
  · exact hs
  · have hline : s.via [.rx, .line] (((s.withRx .hunting []).clearShifter).goodFrame) := by
      simp (maxDischargeDepth := 4)
    exact (State.pictureSound_via hs hline (by decide) (State.staysCommitted_of_via hline (by decide))).report _

/-! ### Requests, and those held until a wake (R171, R208) -/

/-- A change that leaves what the picture is read from, and after which a committed node is still committed. -/
theorem State.pictureSound.via (hs : s.pictureSound) (h : s.via ps t) (hps : ∀ p ∈ Part.picture, p ∉ ps)
    (hmode : Part.mode ∉ ps) : t.pictureSound :=
  State.pictureSound_via hs h hps (State.staysCommitted_of_via h hmode)

/-- R171: ASSERT_PICTURE keeps the picture where its gate lets it through. -/
theorem State.pictureSound.gated_assertPicture (hs : s.pictureSound) {e : ReqEntry} (he : e.fn = Fn.assertPicture) :
    (s.gated Machine.takeAssertPicture e).pictureSound := by
  unfold State.gated
  rw [he]
  split
  · next hgate =>
    obtain ⟨hlisten, hsetup⟩ := committed_of_gate hgate
    refine State.pictureSound_intro fun hr => ?_
    have hvia : s.via [.line, .req, .pub, .trk] (takeAssertPicture e s) := by simp
    exact (hs.pictured ((State.via_role hvia (by decide)).symm.trans hr)).takeAssertPicture
      (not_or.mpr ⟨hlisten, hsetup⟩) e
  · exact hs.via (ps := [.line, .req]) (by simp) (by decide) (by decide)
  · exact hs.via (ps := [.node, .drv]) (by simp) (by decide) (by decide)

/-- R171: a function that keeps the picture keeps it behind its gate too. -/
theorem State.pictureSound.gated (hs : s.pictureSound) {take : ReqEntry → State → State} {e : ReqEntry}
    (htake : (take e s).pictureSound) : (s.gated take e).pictureSound := by
  unfold State.gated
  split
  · exact htake
  · exact hs.via (ps := [.line, .req]) (by simp) (by decide) (by decide)
  · exact hs.via (ps := [.node, .drv]) (by simp) (by decide) (by decide)

theorem State.pictureSound.takeSetDatum (hs : s.pictureSound) (e : ReqEntry) :
    (Machine.takeSetDatum e s).pictureSound := by
  refine State.pictureSound_intro fun hr => ?_
  have hvia : s.via (.trk :: Part.ending) (Machine.takeSetDatum e s) := by simp [Part.ending, Part.publication]
  exact (hs.pictured ((State.via_role hvia (by decide)).symm.trans hr)).takeSetDatum e

theorem State.pictureSound.takePark (hs : s.pictureSound) (e : ReqEntry) : (Machine.takePark e s).pictureSound := by
  have hvia : s.via Part.nodeChange (Machine.takePark e s) := by simp [Part.nodeChange, Part.ending, Part.publication]
  exact State.pictureSound_via hs hvia (by decide) (State.staysCommitted_takePark e s)

/-- The functions that neither park nor work on the picture. -/
theorem destination_via {fn : Nat} (hpark : fn ≠ Fn.park) (hdatum : fn ≠ Fn.setDatum) (hpic : fn ≠ Fn.assertPicture)
    (e : ReqEntry) (s : State) : s.via ([.node, .locks] ++ Part.ending) (destination fn e s) := by
  unfold destination
  split
  all_goals first
    | exact absurd rfl hpark
    | exact absurd rfl hdatum
    | exact absurd rfl hpic
    | simp [Part.ending, Part.publication]

theorem State.pictureSound.gated_destination (hs : s.pictureSound) (e : ReqEntry) :
    (s.gated (destination e.fn) e).pictureSound := by
  by_cases hpic : e.fn = Fn.assertPicture
  · have hdest : destination e.fn = Machine.takeAssertPicture := by rw [hpic]; rfl
    rw [hdest]
    exact hs.gated_assertPicture hpic
  refine hs.gated ?_
  by_cases hpark : e.fn = Fn.park
  · rw [hpark]; exact hs.takePark e
  by_cases hdatum : e.fn = Fn.setDatum
  · rw [hdatum]; exact hs.takeSetDatum e
  exact hs.via (destination_via hpark hdatum hpic e s) (by decide) (by decide)

theorem State.pictureSound.actBroadcast (hs : s.pictureSound) (b : Broadcast) : (s.actBroadcast b).pictureSound := by
  have hvia : s.via Part.nodeChange (s.actBroadcast b) := by simp [Part.nodeChange, Part.ending, Part.publication]
  exact State.pictureSound_via hs hvia (by decide) (State.staysCommitted_actBroadcast b s)

theorem State.pictureSound.takeHeld (hs : s.pictureSound) (item : HeldBroadcast ⊕ ReqEntry) :
    (s.takeHeld item).pictureSound := by
  cases item with
  | inl b => exact hs.actBroadcast b.what
  | inr e =>
    unfold State.takeHeld
    dsimp only
    split
    · exact hs.gated_destination e
    · exact hs

theorem State.pictureSound.takeAllHeld (hs : s.pictureSound) (items : List (HeldBroadcast ⊕ ReqEntry)) :
    (items.foldl (fun s i => s.takeHeld i) s).pictureSound := by
  induction items generalizing s with
  | nil => exact hs
  | cons i items ih => exact ih (hs.takeHeld i)

theorem State.pictureSound.wakeAndTake (hs : s.pictureSound) : s.wakeAndTake.pictureSound := by
  have hwake : s.via Part.nodeChange s.wake := by simp [Part.nodeChange, Part.ending, Part.publication]
  have hwoken := State.pictureSound_via hs hwake (by decide) (State.staysCommitted_wake s)
  exact hwoken.takeAllHeld _

end

/-! ### Every command and every step -/

section
variable {ps : List Part} {s t u : State}

theorem State.pictureSound.finish (hs : s.pictureSound) : s.finish.pictureSound :=
  hs.via (State.via_finish (State.via_refl Part.publication s) (by decide) (by decide)) (by decide) (by decide)

theorem State.pictureSound.conclude (hs : s.pictureSound) : s.conclude.pictureSound := by
  unfold State.conclude
  split
  · exact State.isReset.pictureSound (s := s) ⟨_, _, _, rfl⟩
  · exact hs.finish

theorem taken_pictureSound {b : Bool} {act : State → State} (hs : s.pictureSound)
    (hact : b = true → (act s).pictureSound) (h : taken b act s = .next t) : t.pictureSound := by
  obtain rfl := Host.Outcome.next.inj h
  split
  · next hb => exact (hact hb).finish
  · exact hs

theorem takenOnLine_pictureSound {b : Bool} {act : State → State} (hs : s.pictureSound)
    (hact : b = true → (act s).pictureSound) (h : takenOnLine b act s = .next t) : t.pictureSound := by
  obtain rfl := Host.Outcome.next.inj h
  split
  · next hb => exact (hact hb).conclude
  · exact hs

/-- R191: a row of frame handling acts on the oldest held frame, which is a frame of the row. -/
theorem handled_pictureSound {row : Instr} {act : RxFrame → State → State} (hs : s.pictureSound)
    (hact : ∀ f (u : State), s.rowOf f = row → u.pictureSound → (act f u).pictureSound)
    (h : handled row act s = .next t) : t.pictureSound := by
  unfold handled at h
  split at h
  · next f hf =>
    obtain rfl := Host.Outcome.next.inj h
    have hrow : s.rowOf f = row := by
      unfold State.headIs at hf
      split at hf
      · cases hf
      · split at hf
        · next hrow => exact Option.some.inj hf ▸ hrow
        · cases hf
    have hdrop : s.via [.rx, .line] s.dropHeld := by simp
    exact (hact f _ hrow (hs.via hdrop (by decide) (by decide))).finish
  · obtain rfl := Host.Outcome.next.inj h
    exact hs

theorem State.Pictured.withReq (hs : s.Pictured) (x : RequestUnit) : (s.withReq x).Pictured :=
  PicturedAt.of_same (t := s.withReq x) hs rfl rfl id

/-- R169: a request that makes an entry keeps the picture where its function does. -/
theorem State.pictureSound.enterRequest (hs : s.pictureSound) (r : Request) {act : ReqEntry → State → State}
    (hact : ∀ e (u : State), e.fn = r.fn → u.pictureSound → (act e u).pictureSound) :
    (s.enterRequest r act).pictureSound := by
  unfold State.enterRequest
  split
  · exact hs
  · have hoffer : ∀ f, (s.offer f).pictureSound := fun f =>
      hs.via (ps := [.line, .req]) (by simp) (by decide) (by decide)
    split
    · exact (hoffer _).via (State.via_offerAll (State.via_refl [.line, .req] _) (by decide) (by decide) _) (by decide)
        (by decide)
    · exact hact _ _ rfl (State.pictureSound_intro fun hr => ((hoffer _).pictured hr).withReq _)

theorem State.pictureSound.handleRequest (hs : s.pictureSound) (f : RxFrame) {take : ReqEntry → State → State}
    (htake : ∀ r e (u : State), f.request? = some r → e.fn = r.fn → u.pictureSound → (u.gated take e).pictureSound) :
    (s.handleRequest take f).pictureSound := by
  unfold State.handleRequest
  split
  · next r hr => exact hs.enterRequest r fun e u he hu => htake r e u hr he hu
  · exact hs

/-- An event that takes a reading other than the payout. -/
theorem State.pictureSound.reading (hs : s.pictureSound) {x : Sensors} (hx : x.payout = s.sens.payout)
    (h : (s.withSens x).via ps u) (hps : ∀ p ∈ Part.picture, p ∉ ps) (hmode : Part.mode ∉ ps) : u.pictureSound :=
  (State.pictureSound_withSens hs x hx).via h hps hmode

theorem State.Pictured.withSens (hs : s.Pictured) (x : Sensors) : (s.withSens x).PicturedAt s.E :=
  PicturedAt.of_same hs rfl rfl id

/-- R3, R6: the picture follows the rope. -/
theorem State.pictureSound.ropeMoved (hs : s.pictureSound) (hr : s.role = some .winch) (p : Int) :
    (s.ropeMoved p).pictureSound := by
  have hmoved := Pictured.trackRope ((hs.pictured hr).withSens { s.sens with payout := p })
  have hend : (State.trackRope s (s.withSens { s.sens with payout := p })).via Part.ending (s.ropeMoved p) := by
    unfold State.ropeMoved
    simp (maxDischargeDepth := 10) [Part.ending, Part.publication]
  exact State.pictureSound_intro fun _ => hmoved.via hend (by decide) (State.staysCommitted_of_via hend (by decide))

/-- R15 to R17: kelly home becomes active. -/
theorem State.pictureSound.cameHome (hs : s.pictureSound) (hr : s.role = some .winch) : s.cameHome.pictureSound := by
  have hhome : (s.withSens { s.sens with home := true }).Pictured :=
    (State.pictureSound_withSens hs { s.sens with home := true } rfl).pictured hr
  have hend : (s.withSens { s.sens with home := true }).trackHome.via Part.ending s.cameHome := by
    unfold State.cameHome
    simp (maxDischargeDepth := 10) [Part.ending, Part.publication]
  exact State.pictureSound_intro fun _ =>
    hhome.trackHome.via hend (by decide) (State.staysCommitted_of_via hend (by decide))

/-- A command that touches none of the parts that the picture is read from keeps it, or resets the block. -/
theorem exec_pictureSound_of_untouched {i : Instr} (hs : s.pictureSound) (h : exec i s = .next t)
    (hi : ∀ p ∈ .mode :: Part.picture, p ∉ i.touches) : t.pictureSound := by
  obtain ⟨hmode, hps⟩ := List.forall_mem_cons.mp hi
  rcases exec_via h with hvia | ⟨-, hreset⟩
  · exact hs.via hvia hps hmode
  · exact hreset.pictureSound

/-- A command that can change the node state besides. -/
theorem State.pictureSound.nodeChange (hs : s.pictureSound) (h : s.via Part.nodeChange t) (hstays : s.staysCommitted t) :
    t.pictureSound := State.pictureSound_via hs h (by decide) hstays

theorem exec_pictureSound {i : Instr} (hs : s.pictureSound) (h : exec i s = .next t) : t.pictureSound := by
  have hwinch : ∀ {b : Bool}, (s.role == some .winch && b) = true → s.role = some .winch := fun hb =>
    eq_of_beq (Bool.and_eq_true_iff.mp hb).1
  cases i with
  | powerOn pins | supplyDip pins | resetLine pins =>
    exact (exec_isReset_of_mem (pins := pins) (by simp) h).pictureSound
  | listenTimerExpiry =>
    refine taken_pictureSound hs (fun hb => ?_) h
    have hlisten : s.node.state = .listen := eq_of_beq (Bool.and_eq_true_iff.mp hb).1
    exact hs.nodeChange (by simp [Part.nodeChange, Part.ending, Part.publication]) fun _ => .inl hlisten
  | stopLineAsserted =>
    change execStopLineAsserted s = _ at h
    refine taken_pictureSound hs (fun _ => ?_) h
    exact (State.pictureSound_withSens hs { s.sens with stopLine := true } rfl).nodeChange
      (by simp [Part.nodeChange, Part.ending, Part.publication]) (State.staysCommitted_stopAsserted _)
  | stopLineReleased =>
    change execStopLineReleased s = _ at h
    refine taken_pictureSound hs (fun _ => ?_) h
    exact (State.pictureSound_withSens hs { s.sens with stopLine := false } rfl).nodeChange
      (by simp [Part.nodeChange, Part.ending, Part.publication]) (State.staysCommitted_stopReleased _)
  | ropeEvent p => exact taken_pictureSound hs (fun hb => hs.ropeMoved (hwinch hb) p) h
  | kellyHomeActive => exact taken_pictureSound hs (fun hb => hs.cameHome (hwinch hb)) h
  | ropeTensionEvent n =>
    change execRopeTensionEvent n s = _ at h
    exact taken_pictureSound hs (fun _ => hs.reading (x := { s.sens with tension := n }) (ps := Part.ending) rfl
      (by simp [Part.ending, Part.publication]) (by decide) (by decide)) h
  | kellyHomeInactive =>
    change execKellyHomeInactive s = _ at h
    exact taken_pictureSound hs (fun _ => State.pictureSound_withSens hs { s.sens with home := false } rfl) h
  | axisSpeedEvent v =>
    change execAxisSpeedEvent v s = _ at h
    exact taken_pictureSound hs (fun _ => hs.reading (x := { s.sens with speed := v }) (ps := .locks :: Part.ending) rfl
      (by simp (maxDischargeDepth := 6) [Part.ending, Part.publication]) (by decide) (by decide)) h
  | strokeEvent x =>
    change execStrokeEvent x s = _ at h
    exact taken_pictureSound hs (fun _ => hs.reading (x := { s.sens with stroke := x }) (ps := Part.ending) rfl
      (by simp [Part.ending, Part.publication]) (by decide) (by decide)) h
  | crowdForceEvent f =>
    change execCrowdForceEvent f s = _ at h
    exact taken_pictureSound hs (fun _ => State.pictureSound_withSens hs { s.sens with force := f } rfl) h
  | angleEvent c =>
    change execAngleEvent c s = _ at h
    refine taken_pictureSound hs (fun _ => hs.reading (x := { s.sens with angle := s.sens.angle + c })
      (ps := .locks :: Part.ending) rfl ?_ (by decide) (by decide)) h
    unfold State.turn
    dsimp only
    split <;> simp (maxDischargeDepth := 40) [Part.ending, Part.publication]
  | torqueEvent q =>
    change execTorqueEvent q s = _ at h
    exact taken_pictureSound hs (fun _ => hs.reading (x := { s.sens with torque := q }) (ps := .locks :: Part.ending) rfl
      (by simp [Part.ending, Part.publication]) (by decide) (by decide)) h
  | agingStep n => exact taken_pictureSound hs (fun _ => hs.agingStep n) h
  | wakeTimerExpiry => exact taken_pictureSound hs (fun _ => hs.wakeAndTake) h
  | frameComplete c =>
    change execFrameComplete c s = _ at h
    refine takenOnLine_pictureSound hs (fun _ => ?_) h
    have hvia : s.via (.rx :: Part.nodeChange) (s.frameDone (s.line.chars ++ [c])) := by
      simp [Part.nodeChange, Part.ending, Part.publication]
    exact State.pictureSound_via hs hvia (by decide) (State.staysCommitted_frameDone _ s)
  | txComplete => exact takenOnLine_pictureSound hs (fun _ => hs.frameSent) h
  | publishHandled => exact handled_pictureSound hs (fun f _ _ hu => hu.takePublication f) h
  | setupHandled => exact handled_pictureSound hs (fun f _ _ hu => hu.takeSetupFrame f) h
  | start =>
    change execStart s = _ at h
    exact handled_pictureSound hs (fun _ u _ hu => hu.nodeChange (by simp [Part.nodeChange, Part.ending, Part.publication])
      (State.staysCommitted_takeBroadcast _ u)) h
  | halt =>
    change execHalt s = _ at h
    exact handled_pictureSound hs (fun _ u _ hu => hu.nodeChange (by simp [Part.nodeChange, Part.ending, Part.publication])
      (State.staysCommitted_takeBroadcast _ u)) h
  | park =>
    exact handled_pictureSound hs (fun f _ _ hu => hu.handleRequest f fun _ e _ _ _ hv => hv.gated (hv.takePark e)) h
  | setDatum =>
    exact handled_pictureSound hs (fun f _ _ hu => hu.handleRequest f fun _ e _ _ _ hv => hv.gated (hv.takeSetDatum e)) h
  | assertPicture =>
    refine handled_pictureSound hs (fun f _ hrow hu => hu.handleRequest f fun r e _ hr he hv => ?_) h
    rw [State.rowOf_request hr] at hrow
    exact hv.gated_assertPicture (he.trans (State.requestRow_fn hrow rfl))
  | _ => exact exec_pictureSound_of_untouched hs h (of_decide_eq_true rfl)

/-- A bit time makes the entries older, which moves neither the mirrors nor their strokes. -/
theorem State.pictureSound.tick (hs : s.pictureSound) : s.tick.pictureSound := by
  refine State.pictureSound_intro fun hr => ?_
  have hserve := servingEntry_map (f := Peer.older ((s.clockUs + s.bitUs) / 1000)) (fun _ => rfl) (fun _ => rfl)
    (fun _ => rfl) s.station .crowd s.peers
  have hT : s.tick.strokeInUse = s.strokeInUse := by
    have htick : s.tick.mirror .crowd = (s.mirror .crowd).map (Peer.older ((s.clockUs + s.bitUs) / 1000)) := hserve
    unfold State.strokeInUse
    rw [htick]
    cases s.mirror .crowd <;> rfl
  have hE : s.tick.E = s.E := by rw [State.E, hT]; rfl
  unfold State.Pictured
  rw [hE]
  exact PicturedAt.of_same (hs.pictured hr) rfl rfl id

end

/-- Settles O7: every command keeps the picture (`exec_pictureSound`), and so does a bit time. -/
theorem everyStepKeepsThePictureInOrder : Obligations.EveryStepKeepsThePictureInOrder := by
  intro s t _ hs h
  unfold step at h
  split at h
  · obtain rfl := Host.Outcome.next.inj h
    exact hs.tick
  · next c rest _ =>
    have hrest : (s.withPending rest).pictureSound := hs
    exact exec_pictureSound hrest h

end Sys2Proof.Machine

/-! ## What an event leaves: its end, a REPLY, the end of a mode and of an operation

The lemmas that several of the settled statements below share: the fields an event's end leaves (R160), a frame's way
through the operations on the transmit queue (R195, R196), and what the ends of a mode (R83) and of an operation (R57)
come to in the words of the statements. -/

namespace Sys2Proof.Machine

/-! ### An event taken -/

theorem taken_of_occurs {b : Bool} (act : State → State) (s : State) (h : b = true) :
    taken b act s = .next (act s).finish := by rw [taken, if_pos h]

theorem takenOnLine_of_occurs {b : Bool} (act : State → State) (s : State) (h : b = true) :
    takenOnLine b act s = .next (act s).conclude := by rw [takenOnLine, if_pos h]

theorem State.via_of_finish (s : State) : s.via Part.publication s.finish :=
  State.via_finish (State.via_refl _ s) (by decide) (by decide)

@[simp] theorem State.finish_pending (s : State) : s.finish.pending = s.pending := s.via_of_finish.pending
@[simp] theorem State.finish_clockUs (s : State) : s.finish.clockUs = s.clockUs := s.via_of_finish.same .clock (by decide)
@[simp] theorem State.finish_node (s : State) : s.finish.node = s.node := s.via_of_finish.same .node (by decide)
@[simp] theorem State.finish_req (s : State) : s.finish.req = s.req := s.via_of_finish.same .req (by decide)
@[simp] theorem State.finish_peers (s : State) : s.finish.peers = s.peers := s.via_of_finish.same .peers (by decide)
@[simp] theorem State.finish_share (s : State) : s.finish.share = s.share := s.via_of_finish.same .share (by decide)
@[simp] theorem State.finish_trk (s : State) : s.finish.trk = s.trk := s.via_of_finish.same .trk (by decide)
@[simp] theorem State.finish_drv (s : State) : s.finish.drv = s.drv := s.via_of_finish.same .drv (by decide)
@[simp] theorem State.finish_op (s : State) : s.finish.op = s.op := s.via_of_finish.same .op (by decide)

theorem State.finish_rx (s : State) : Part.rx.same s s.finish := s.via_of_finish.same .rx (by decide)

/-- The frame of an event: its act's frame, with the publication of its end. -/
theorem State.sameBut_finish {ps : List Part} {s u : State} (h : s.via ps u) (hpub : Part.pub ∈ ps) (hline : Part.line ∈ ps) :
    s.sameBut ps u.finish := (State.via_finish h hpub hline).1

theorem State.sameBut.mono {ps qs : List Part} {s t : State} (h : s.sameBut ps t) (hs : ps ⊆ qs) : s.sameBut qs t :=
  ⟨h.1, fun p hp => h.2 p fun hm => hp (hs hm)⟩

/-! ### A frame's way through an offer -/

theorem sublist_insert_while (p : TxFrame → Bool) (f : TxFrame) (q : List TxFrame) :
    q.Sublist (q.takeWhile p ++ f :: q.dropWhile p) := by
  conv_lhs => rw [← List.takeWhile_append_dropWhile (p := p) (l := q)]
  exact (List.Sublist.refl _).append (List.sublist_cons_self _ _)

/-- R195: what an offer can make of the queue, and what it leaves of the line. -/
inductive OfferedTo (enter : TxFrame → List TxFrame → List TxFrame) (f : TxFrame) (q r : List TxFrame) : Prop where
  | kept (h : r = q)
  | replaced (hf : f.isPublish = true) (h : r = q.map fun g => if g.isPublish then f else g)
  | entered (hlen : q.length < 6) (h : r = enter f q)
  | evicted (hf : f.isPublish = false) (h : r = enter f (q.filter fun g => !g.isPublish))

theorem State.offerAt_offered (enter : TxFrame → List TxFrame → List TxFrame) (f : TxFrame) (s : State) :
    OfferedTo enter f s.line.queue (s.offerAt enter f).line.queue := by
  unfold State.offerAt
  dsimp only
  split
  · exact .kept rfl
  split
  · next h => exact .replaced (Bool.and_eq_true_iff.mp h).1 rfl
  split
  · next h => exact .entered h rfl
  split
  · next h => exact .evicted (by simpa using (Bool.and_eq_true_iff.mp h).1) rfl
  · exact .kept (State.dropped_queue f s)

theorem State.offer_offered (f : TxFrame) (s : State) :
    OfferedTo enterAtTail f s.line.queue (s.offer f).line.queue := State.offerAt_offered _ f s

/-- An offer adds nothing but its frame. -/
theorem OfferedTo.mem_or {enter : TxFrame → List TxFrame → List TxFrame} (he : Enters enter) {f g : TxFrame}
    {q r : List TxFrame} (h : OfferedTo enter f q r) (hg : g ∈ r) : g = f ∨ g ∈ q := by
  cases h with
  | kept h => exact .inr (h ▸ hg)
  | replaced hf h =>
    subst h
    obtain ⟨x, hx, hxg⟩ := List.mem_map.mp hg
    split at hxg
    · exact .inl hxg.symm
    · exact .inr (hxg ▸ hx)
  | entered hlen h => exact (he.mem f q g).mp (h ▸ hg)
  | evicted hf h =>
    rcases (he.mem f _ g).mp (h ▸ hg) with hg | hg
    · exact .inl hg
    · exact .inr (List.mem_filter.mp hg).1

/-- An offer keeps the queued frames that are no PUBLISH, in their order. -/
theorem OfferedTo.sublist {f : TxFrame} {q r l : List TxFrame} (h : OfferedTo enterAtTail f q r) (hl : l.Sublist q)
    (hk : ∀ g ∈ l, g.isPublish = false) : l.Sublist r := by
  cases h with
  | kept h => exact h ▸ hl
  | replaced hf h =>
    subst h
    have hmap : l.map (fun g => if g.isPublish then f else g) = l := by
      conv_rhs => rw [← List.map_id l]
      exact List.map_congr_left fun g hg => by simp [hk g hg]
    exact hmap ▸ hl.map _
  | entered hlen h => exact h ▸ hl.trans (sublist_insert_while _ f q)
  | evicted hf h =>
    subst h
    have hfilter : l.filter (fun g => !g.isPublish) = l := List.filter_eq_self.mpr fun g hg => by simp [hk g hg]
    exact (hfilter ▸ hl.filter _).trans (sublist_insert_while _ f _)

theorem State.mem_offer_or {f g : TxFrame} {s : State} (hg : g ∈ (s.offer f).line.queue) : g = f ∨ g ∈ s.line.queue :=
  (s.offer_offered f).mem_or enters_tail hg

theorem State.mem_offerAll_or {fs : List TxFrame} {g : TxFrame} {s : State} (hg : g ∈ (s.offerAll fs).line.queue) :
    g ∈ fs ∨ g ∈ s.line.queue := by
  induction fs generalizing s with
  | nil => exact .inr hg
  | cons f fs ih =>
    rcases ih hg with hg | hg
    · exact .inl (List.mem_cons_of_mem f hg)
    · rcases State.mem_offer_or hg with rfl | hg
      · exact .inl List.mem_cons_self
      · exact .inr hg

theorem State.sublist_offerAll {l fs : List TxFrame} {s : State} (hl : l.Sublist s.line.queue)
    (hk : ∀ g ∈ l, g.isPublish = false) : l.Sublist (s.offerAll fs).line.queue := by
  induction fs generalizing s with
  | nil => exact hl
  | cons f fs ih => exact ih ((s.offer_offered f).sublist hl hk)

@[simp] theorem State.offerAll_shifter (fs : List TxFrame) (s : State) :
    (s.offerAll fs).line.shifter = s.line.shifter := by
  induction fs generalizing s with
  | nil => rfl
  | cons f fs ih => rw [State.offerAll_cons, ih, State.offer_shifter]

/-! ### The end of an event (R160) -/

theorem State.dropped_line (f : TxFrame) (s : State) :
    (s.dropped f).line = { s.line with lastError := .txDrop } := by
  unfold State.dropped
  dsimp only
  split <;> rfl

/-- R195: what an offer makes of the line: it reads the line and whether the node is silenced. -/
def LinePort.offered (silent : Bool) (f : TxFrame) (l : LinePort) : LinePort :=
  if silent then l
  else if f.isPublish && l.queue.any TxFrame.isPublish then
    { l with queue := l.queue.map fun g => if g.isPublish then f else g }
  else if l.queue.length < 6 then { l with queue := enterAtTail f l.queue }
  else if !f.isPublish && l.queue.any TxFrame.isPublish then
    { l with queue := enterAtTail f (l.queue.filter fun g => !g.isPublish) }
  else { l with lastError := .txDrop }

theorem State.offer_line (f : TxFrame) (s : State) : (s.offer f).line = s.line.offered s.silenced f := by
  unfold State.offer State.offerAt
  simp only [apply_ite State.line, State.dropped_line]
  rfl

theorem State.offer_line_congr {s t : State} (f : TxFrame) (hline : t.line = s.line) (hnode : t.node = s.node) :
    (t.offer f).line = (s.offer f).line := by
  rw [State.offer_line, State.offer_line, State.silenced, State.silenced, hline, hnode]

/-- The publication of an event is the last thing that is offered in it. -/
theorem State.finish_line (s : State) :
    s.finish.line = s.line ∨ s.finish.line = (s.offer s.publishFrame).line := by
  unfold State.finish
  split
  · dsimp only
    split
    · exact .inr (State.offer_line_congr _ rfl rfl)
    · exact .inl rfl
  · exact .inl rfl

@[simp] theorem State.finish_shifter (s : State) : s.finish.line.shifter = s.line.shifter := by
  rcases s.finish_line with h | h <;> simp [h, State.offer_shifter]

theorem State.mem_finish_or {g : TxFrame} {s : State} (hg : g ∈ s.finish.line.queue) :
    g = s.publishFrame ∨ g ∈ s.line.queue := by
  rcases s.finish_line with h | h <;> rw [h] at hg
  · exact .inr hg
  · exact State.mem_offer_or hg

theorem State.sublist_finish {l : List TxFrame} {s : State} (hl : l.Sublist s.line.queue)
    (hk : ∀ g ∈ l, g.isPublish = false) : l.Sublist s.finish.line.queue := by
  rcases s.finish_line with h | h <;> rw [h]
  · exact hl
  · exact (s.offer_offered _).sublist hl hk

theorem State.finish_eq_of_settled {s : State} (h : s.settled) (u : State) (hu : u.pub = s.pub) : u.finish = u :=
  State.finish_of_settled (show u.pub.signal = false by rw [hu]; exact h)

/-! ### Room and replies -/

theorem State.hasRoom_of_eq {n : Nat} {s t : State} (h : s.hasRoom n) (hnode : t.node.faults = s.node.faults)
    (hqueue : t.line.queue = s.line.queue) : t.hasRoom n := by
  unfold State.hasRoom State.silenced at *
  rw [hnode, hqueue]
  exact h

theorem State.hasRoom.mono {m n : Nat} {s : State} (h : s.hasRoom n) (hmn : m ≤ n) : s.hasRoom m :=
  ⟨h.1, le_trans (Nat.add_le_add_left hmn _) h.2⟩

theorem State.replied_finish {e : ReqEntry} {res : Result} {why : Reason} {t : State} (h : t.replied e res why) :
    t.finish.replied e res why :=
  ⟨by rw [State.finish_table]; exact h.1, State.queued_finish h.2 fun _ hf => replyFrames_not_publish hf⟩

theorem State.replyTo_of_entry {id : Nat} {e : ReqEntry} {s : State} (h : s.entryOf id = some e) (res : Result)
    (why : Reason) (content : List Byte) : s.replyTo id res why content = s.reply e res why content := by
  rw [State.replyTo, h]

theorem State.entryOf_of_req {s t : State} (h : t.req.table = s.req.table) (id : Nat) : t.entryOf id = s.entryOf id := by
  rw [State.entryOf, State.entryOf, h]

/-! ### The drive goes to HOLD, and a mode ends (R82, R83) -/

theorem Drive.wentToHold_toHold (n : Nat) (d : Drive) : d.wentToHold n (d.toHold n).tidy := by
  obtain ⟨hmode, hpending, hclaim, -, hstate, htimer⟩ := Drive.tidy_toHold n d
  exact ⟨hmode, hpending, hclaim, hstate, htimer⟩

theorem State.holdDrive_drv (s : State) : s.holdDrive.drv = (s.drv.toHold s.node.setup.brakeSet).tidy := by
  rw [State.holdDrive, State.setDrv_drv]

theorem State.holdDrive_wentToHold (s : State) : s.drv.wentToHold s.node.setup.brakeSet s.holdDrive.drv := by
  rw [State.holdDrive_drv]
  exact Drive.wentToHold_toHold _ _

theorem State.holdDrive_source (s : State) : s.holdDrive.drv.source = none := by
  rw [State.holdDrive_drv]
  exact (Drive.tidy_toHold _ _).2.2.2.1

/-- R83: the mode of a direct request ends: the drive holds and the request is replied. -/
theorem State.endMode_of_request {id : Nat} {e : ReqEntry} {s : State} (hsource : s.drv.source = some (.request id))
    (hentry : s.entryOf id = some e) (res : Result) (why : Reason) (reported : Bool) (content : List Byte) :
    s.endMode res why reported content = s.holdDrive.reply e res why content := by
  rw [State.endMode, hsource]
  exact State.replyTo_of_entry ((State.entryOf_of_req (by simp) id).trans hentry) _ _ _

/-- R83: so in the words of the statements. -/
theorem State.endMode_modeEnded {e : ReqEntry} {s : State} (hsource : s.drv.source = some (.request e.id))
    (hentry : s.entryOf e.id = some e) (hroom : s.hasRoom 1) (res : Result) (why : Reason) (reported : Bool) :
    s.modeEnded e res why (s.endMode res why reported) := by
  rw [State.endMode_of_request hsource hentry]
  refine ⟨?_, ?_, State.reply_replied e res why _ (State.hasRoom_of_eq hroom (by simp) (by simp))⟩
  · rw [State.reply_drv]; exact s.holdDrive_wentToHold
  · rw [State.reply_drv]; exact s.holdDrive_source

theorem State.modeEnded_finish {e : ReqEntry} {res : Result} {why : Reason} {s t : State} (h : s.modeEnded e res why t) :
    s.modeEnded e res why t.finish := by
  obtain ⟨hhold, hsource, hreply⟩ := h
  exact ⟨by rw [State.finish_drv]; exact hhold, by rw [State.finish_drv]; exact hsource, State.replied_finish hreply⟩

/-- The end of a mode, told of a state that agrees with the one in which it ends. -/
theorem State.modeEnded_of_eq {e : ReqEntry} {res : Result} {why : Reason} {s u t : State} (h : u.modeEnded e res why t)
    (hdrv : u.drv = s.drv) (hset : u.node.setup = s.node.setup) : s.modeEnded e res why t := by
  obtain ⟨hhold, hrest⟩ := h
  exact ⟨by rw [← hdrv, ← hset]; exact hhold, hrest⟩

end Sys2Proof.Machine

/-! ## The frame's check value (R188), and a frame's place in the transmit queue (R195) -/

namespace Sys2Proof.Machine

/-! ### The check value and a frame read back -/

theorem readU_natBytes_two {n : Nat} (h : n < 65536) : readU (natBytes 2 n) = n := by
  simp [readU, natBytes]
  omega

/-- R187, R188: characters that begin with KIND, SRC and the LEN of a payload that follows, with two more behind it. -/
theorem frameOfChars_append (kind src : Byte) {payload tail : List Byte} (h : payload.length ≤ 48) (ht : tail.length = 2) :
    frameOfChars (kind :: src :: BitVec.ofNat 8 payload.length :: payload ++ tail)
      = if readU tail = (crc16 (kind :: src :: BitVec.ofNat 8 payload.length :: payload)).toNat then
          some { kind := kind, src := src, payload := payload, waited := 0 } else none := by
  have hlen : (BitVec.ofNat 8 payload.length).toNat = payload.length := by
    rw [BitVec.toNat_ofNat]
    exact Nat.mod_eq_of_lt (by omega)
  simp [frameOfChars, hlen, ht]

theorem frameOfChars_frameChars (kind src : Byte) {payload : List Byte} (h : payload.length ≤ 48) :
    frameOfChars (frameChars kind src payload) = some { kind := kind, src := src, payload := payload, waited := 0 } := by
  have hcrc : readU (natBytes 2 (crc16 (kind :: src :: BitVec.ofNat 8 payload.length :: payload)).toNat)
      = (crc16 (kind :: src :: BitVec.ofNat 8 payload.length :: payload)).toNat :=
    readU_natBytes_two (BitVec.isLt _)
  exact (frameOfChars_append kind src h (natBytes_length 2 _)).trans (if_pos hcrc)

/-- Settles O8: a frame as sent is read back by its LEN and check value, and another check value is refused. -/
theorem checkValueOfAFrame : Obligations.CheckValueOfAFrame := by
  unfold Obligations.CheckValueOfAFrame
  refine ⟨Tests.test_crc_check_value, fun kind src payload h => frameOfChars_frameChars kind src h,
    fun kind src hi lo payload h hne => ?_, fun s f h => ⟨⟨_, frameOfChars_frameChars _ _ h, ?_, rfl, rfl⟩, fun hs => ?_⟩⟩
  · exact (frameOfChars_append kind src h rfl).trans (if_neg hne)
  · have hcode : (BitVec.ofNat 8 f.kind.code).toNat = f.kind.code := by
      rw [BitVec.toNat_ofNat]
      exact Nat.mod_eq_of_lt f.kind.code_lt
    simp only [RxFrame.kind?, hcode, FrameKind.ofCode_code]
  · rw [State.lineBits_shifter hs, flatMap_characterBits_length, State.sentChars, frameChars_length]

/-! ### Entering the queue -/

theorem rank_lt_of_mem_dropWhile {n : Nat} {q : List TxFrame} (h : queueOrdered q) {g : TxFrame}
    (hg : g ∈ q.dropWhile fun g => g.kind.rank ≤ n) : n < g.kind.rank := by
  induction q with
  | nil => simp at hg
  | cons x q ih =>
    obtain ⟨hx, hq⟩ := List.pairwise_cons.mp h
    by_cases hxn : x.kind.rank ≤ n
    · rw [List.dropWhile_cons_of_pos (by simpa using hxn)] at hg
      exact ih hq hg
    · rw [List.dropWhile_cons_of_neg (by simpa using hxn)] at hg
      rcases List.mem_cons.mp hg with rfl | hg
      · omega
      · exact lt_of_lt_of_le (by omega) (hx g hg)

/-- R195: a frame enters behind every frame of its class and of the classes before it. -/
theorem enterAtTail_behind (f : TxFrame) {q : List TxFrame} (h : queueOrdered q) :
    ∃ a b, q = a ++ b ∧ enterAtTail f q = a ++ f :: b ∧ (∀ g ∈ a, g.kind.rank ≤ f.kind.rank)
      ∧ ∀ g ∈ b, f.kind.rank < g.kind.rank :=
  ⟨_, _, List.takeWhile_append_dropWhile.symm, rfl, fun _ hg => by simpa using List.mem_takeWhile_imp hg,
    fun _ hg => rank_lt_of_mem_dropWhile h hg⟩

theorem isPublish_eq_true (f : TxFrame) : f.isPublish = true ↔ f.kind = .publish := by simp [TxFrame.isPublish]

theorem isPublish_eq_false (f : TxFrame) : f.isPublish = false ↔ f.kind ≠ .publish := by simp [TxFrame.isPublish]

/-- Settles O10: the four branches of an offer, with the frame's place where it enters. -/
theorem offeredFramesEnterByClassAndRoom : Obligations.OfferedFramesEnterByClassAndRoom := by
  unfold Obligations.OfferedFramesEnterByClassAndRoom
  intro s f hb hs
  obtain ⟨⟨hlen, -, hord, -⟩, -⟩ := hb
  unfold State.offer State.offerAt
  dsimp only
  rw [if_neg (by simp [hs])]
  refine ⟨fun hf hq => ?_, fun hf hq => ?_, fun hf hq hfull => ?_, fun hq hfull => ?_⟩
  · rw [if_pos (by simp only [hq, Bool.and_true]; exact (isPublish_eq_true f).mpr hf)]
    exact List.map_congr_left fun g _ => by simp only [isPublish_eq_true]
  · have hno : ¬(f.isPublish && s.line.queue.any TxFrame.isPublish) = true := by
      rcases hf with hf | hf
      · rw [(isPublish_eq_false f).mpr hf]; simp
      · rw [hf]; simp
    rw [if_neg hno, if_pos hq]
    exact enterAtTail_behind f hord
  · have hf' := (isPublish_eq_false f).mpr hf
    rw [if_neg (by simp [hf']), if_neg (by omega), if_pos (by simp [hf', hq])]
    have hfilter : (s.line.queue.filter fun g => !g.isPublish) = s.line.queue.filter fun g => g.kind ≠ .publish :=
      List.filter_congr fun g _ => by cases h : g.isPublish <;> simp_all [isPublish_eq_true, isPublish_eq_false]
    rw [hfilter]
    exact enterAtTail_behind f (List.Pairwise.filter _ hord)
  · rw [if_neg (by simp [hq]), if_neg (by omega), if_neg (by simp [hq])]
    exact ⟨State.dropped_queue f s, by rw [State.dropped_line]⟩

end Sys2Proof.Machine

/-! ## The rig line: the receiver, the start of a transmission, its loss and its completion -/

namespace Sys2Proof.Machine

/-! ### An event of the line with no RESET_NODE due (R209) -/

theorem State.resetDue_of_noResetWaits {s : State} (h : s.noResetWaits) : s.resetDue = false := by
  refine List.any_eq_false.mpr fun e he => ?_
  simp [State.entryResetDue, h e he]

theorem State.conclude_of_noResetWaits {s : State} (h : s.noResetWaits) : s.conclude = s.finish :=
  if_neg (by simp [State.resetDue_of_noResetWaits h])

theorem State.noResetWaits_of_table {s t : State} (h : s.noResetWaits) (ht : t.req.table = s.req.table) : t.noResetWaits := by
  unfold State.noResetWaits at *
  rw [ht]
  exact h

/-- An event that signals nothing and leaves the request table ends as its act left it. -/
theorem State.conclude_unsignalled {s u : State} (hs : s.settled) (hr : s.noResetWaits) (hpub : u.pub = s.pub)
    (htable : u.req.table = s.req.table) : u.conclude = u := by
  rw [State.conclude_of_noResetWaits (State.noResetWaits_of_table hr htable), State.finish_eq_of_settled hs _ hpub]

theorem takenOnLine_unsignalled {b : Bool} {act : State → State} {s : State} (hb : b = true) (hs : s.settled)
    (hr : s.noResetWaits) (hpub : (act s).pub = s.pub) (htable : (act s).req.table = s.req.table) :
    takenOnLine b act s = .next (act s) := by
  rw [takenOnLine_of_occurs act s hb, State.conclude_unsignalled hs hr hpub htable]

theorem taken_unsignalled {b : Bool} {act : State → State} {s : State} (hb : b = true) (hs : s.settled)
    (hpub : (act s).pub = s.pub) : taken b act s = .next (act s) := by
  rw [taken_of_occurs act s hb, State.finish_eq_of_settled hs _ hpub]

/-! ### A receive error (R189, R190) -/

section
variable (k : LineError) (s : State)

@[simp] theorem State.receiveError_rx : (s.receiveError k).line.rx = s.line.rx := by
  unfold State.receiveError; dsimp only; split <;> rfl

@[simp] theorem State.receiveError_hold : (s.receiveError k).line.hold = s.line.hold := by
  unfold State.receiveError; dsimp only; split <;> rfl

@[simp] theorem State.receiveError_quiet : (s.receiveError k).line.quiet = s.line.quiet := by
  unfold State.receiveError; dsimp only; split <;> rfl

@[simp] theorem State.receiveError_pub : (s.receiveError k).pub = s.pub := by
  unfold State.receiveError; dsimp only; split <;> rfl

@[simp] theorem State.receiveError_table : (s.receiveError k).req.table = s.req.table := by
  unfold State.receiveError; dsimp only; split <;> rfl

end

theorem count255_eq_sixteen {n : Nat} : count255 n = 16 ↔ n = 15 := by
  unfold count255; omega

/-- A receive error is counted on the run and the line state that stand. -/
theorem State.receiveError_counted (k : LineError) {s u : State} (hrun : u.line.errRun = s.line.errRun)
    (hstate : u.line.state = s.line.state) (hreq : u.req = s.req) : s.errorCounted k (u.receiveError k) := by
  unfold State.receiveError
  dsimp only
  split
  · next h =>
    obtain ⟨hn, hnormal⟩ := h
    rw [hrun, count255_eq_sixteen] at hn
    have hs : s.line.state = .normal := hstate ▸ hnormal
    exact ⟨rfl, congrArg count255 hrun, rfl, fun _ _ => ⟨rfl, rfl⟩, fun h => by simp [hn, hs] at h⟩
  · next h =>
    rw [hrun, count255_eq_sixteen] at h
    exact ⟨rfl, congrArg count255 hrun, rfl, fun hn hs => absurd ⟨hn, hstate.trans hs⟩ h, fun _ => ⟨hstate, hreq⟩⟩

/-! ### Characters (R186, R187, R189) -/

theorem State.takeCharacter_pub (c : Byte) (s : State) : (s.takeCharacter c).pub = s.pub := by
  unfold State.takeCharacter; repeat' split
  all_goals simp [State.withRx]

theorem State.takeCharacter_table (c : Byte) (s : State) : (s.takeCharacter c).req.table = s.req.table := by
  unfold State.takeCharacter; repeat' split
  all_goals simp [State.withRx]

/-- Settles O33: the act of the event by the receiver's state. -/
theorem charactersJoinTheFrame : Obligations.CharactersJoinTheFrame := by
  unfold Obligations.CharactersJoinTheFrame
  intro c s hrec hs hr
  have hexec : exec (.characterReceived c) s = .next (s.takeCharacter c) := by
    change takenOnLine s.receives (State.takeCharacter c) s = _
    exact takenOnLine_unsignalled hrec hs hr (s.takeCharacter_pub c) (s.takeCharacter_table c)
  refine ⟨_, hexec, fun hrx => ?_, fun hrx => ?_, fun hrx hlen hc => ?_, fun hrx hgood hlast => ?_, ?_⟩
  · simp [State.takeCharacter, hrx, State.withRx]
  · simp [State.takeCharacter, hrx, State.withRx]
  · have hbad : s.lengthBad c = true := by simp [State.lengthBad, hrx, hlen, hc]
    have hact : s.takeCharacter c = (s.withRx .skipping []).receiveError .length := by
      simp [State.takeCharacter, hrx, hbad]
    rw [hact]
    exact ⟨State.receiveError_rx _ _, State.receiveError_counted _ rfl rfl rfl⟩
  · have hok : s.lengthBad c = false := by
      rcases hgood with h | h
      · simp [State.lengthBad, h]
      · simp [State.lengthBad, h]
    simp [State.takeCharacter, hrx, hok, hlast, State.withRx]
  · exact (State.via_takeCharacter (State.via_refl _ s) (by decide) (by decide) (by decide) c).1

/-- Settles O34: a character in error is skipped, and counted unless the receiver skips already. -/
theorem characterErrorsSkipTheFrame : Obligations.CharacterErrorsSkipTheFrame := by
  unfold Obligations.CharacterErrorsSkipTheFrame
  intro c parity stop s hrec hs hr herr
  have hfault : s.characterFault c parity stop = some (if parityOdd c parity then .framing else .parity) := by
    unfold State.characterFault
    cases hp : parityOdd c parity
    · simp
    · have hstop : stop = false := by simpa [hp] using herr
      simp [hstop]
  have hvia : s.via [.rx, .line, .req] (s.takeBadCharacter c parity stop) :=
    State.via_takeBadCharacter (State.via_refl _ s) (by decide) (by decide) (by decide) c parity stop
  have hskip : s.line.rx = .skipping → s.takeBadCharacter c parity stop = s.withRx .skipping [] := fun h => by
    unfold State.takeBadCharacter
    rw [hfault]
    dsimp only
    rw [if_pos h]
  have hcount : s.line.rx ≠ .skipping → s.takeBadCharacter c parity stop
      = (s.withRx .skipping []).receiveError (if parityOdd c parity then .framing else .parity) := fun h => by
    unfold State.takeBadCharacter
    rw [hfault]
    dsimp only
    rw [if_neg h]
  have htable : (s.takeBadCharacter c parity stop).req.table = s.req.table := by
    by_cases h : s.line.rx = .skipping
    · rw [hskip h]; rfl
    · rw [hcount h, State.receiveError_table]; rfl
  have hexec : exec (.characterError c parity stop) s = .next (s.takeBadCharacter c parity stop) := by
    change takenOnLine s.receives (State.takeBadCharacter c parity stop) s = _
    exact takenOnLine_unsignalled hrec hs hr (hvia.same .pub (by decide)) htable
  refine ⟨_, hexec, ?_, fun h => ?_, fun h => ?_, hvia.1⟩
  · by_cases h : s.line.rx = .skipping
    · rw [hskip h]; rfl
    · rw [hcount h, State.receiveError_rx]; rfl
  · rw [hcount h]; exact State.receiveError_counted _ rfl rfl rfl
  · rw [hskip h]; simp [State.withRx, h]

/-- Settles O35: TRUNCATED and the end of SKIPPING by the quiet count, and a noise pulse. -/
theorem quietEndsTheReceiversStates : Obligations.QuietEndsTheReceiversStates := by
  unfold Obligations.QuietEndsTheReceiversStates
  intro n s hrec hs hr
  refine ⟨fun hrx hq => ?_, fun hrx hq => ?_, ?_⟩
  · have hexec : exec (.truncated n) s = .next (s.truncate n) := by
      change takenOnLine (s.receives && s.line.rx == .inFrame && decide (22 < s.line.quiet + n)) (State.truncate n) s = _
      exact takenOnLine_unsignalled (by simp [hrec, hrx, hq]) hs hr (by simp [State.truncate, State.quietFor])
        (by simp [State.truncate, State.quietFor])
    exact ⟨_, hexec, by simp [State.truncate], State.receiveError_counted _ rfl rfl rfl, by simp [State.truncate, State.quietFor],
      (State.via_truncate (State.via_refl _ s) (by decide) (by decide) (by decide) n).1⟩
  · have hexec : exec (.skipQuietEnd n) s
        = .next (s.withLine { s.line with rx := .hunting, chars := [], quiet := s.line.quiet + n }) := by
      change taken (s.receives && s.line.rx == .skipping && decide (10 ≤ s.line.quiet + n))
        (fun s => (s.quietFor n).withLine { (s.quietFor n).line with rx := .hunting, chars := [] }) s = _
      exact taken_unsignalled (by simp [hrec, hrx, hq]) hs rfl
    exact ⟨_, hexec, rfl, rfl, fun p hp => by cases p <;> simp [Part.same] at hp ⊢⟩
  · change taken s.receives (fun s => s.withLine { s.line with quiet := 0 }) s = _
    exact taken_unsignalled hrec hs rfl

/-! ### The start of a transmission (R192) -/

theorem State.startFrame_pub (s : State) : s.startFrame.pub = s.pub := by
  unfold State.startFrame; repeat' split
  all_goals rfl

/-- Settles O37: the head frame starts, or nothing but the quiet count moves. -/
theorem transmissionStartsAfterTheQuietGap : Obligations.TransmissionStartsAfterTheQuietGap := by
  unfold Obligations.TransmissionStartsAfterTheQuietGap
  intro n s hs
  have hexec : exec (.transmitStart n) s = .next (s.quietFor n).startFrame := by
    change taken true (fun s => (s.quietFor n).startFrame) s = _
    exact taken_unsignalled rfl hs (State.startFrame_pub _)
  rw [hexec]
  have hidle : s.withLine { s.line with quiet := s.line.quiet + n } = s.quietFor n := rfl
  refine ⟨fun f rest hq hsh hrx hmay hgap => ?_, fun h => ?_⟩
  · have hmay' : (s.quietFor n).mayTransmit = true := hmay
    simp [State.startFrame, State.quietFor, hq, hsh, hrx] at hmay' ⊢
    simp [hmay', hgap]
    rfl
  · rw [hidle]
    congr 1
    unfold State.startFrame
    split
    · next f rest hq hsh hrx =>
      refine if_neg fun ⟨hmay, hgap⟩ => ?_
      have hq' : s.line.queue = f :: rest := hq
      have hgap' : f.kind.gap ≤ s.line.quiet + n := hgap
      rcases h with h | h | h | h | ⟨g, r, hg, hlt⟩
      · simp [h] at hq'
      · exact h hsh
      · exact h hrx
      · exact absurd hmay (by rw [show (s.quietFor n).mayTransmit = s.mayTransmit from rfl, h]; simp)
      · obtain ⟨rfl, rfl⟩ := List.cons.inj (hg.symm.trans hq')
        omega
    · rfl

/-! ### A good frame (R189, R190) -/

theorem State.goodFrame_counted {s u : State} (hrun : u.line.goodRun = s.line.goodRun)
    (hstate : u.line.state = s.line.state) : s.goodFrameCounted u.goodFrame := by
  unfold State.goodFrame
  dsimp only
  rw [hrun, hstate]
  refine ⟨rfl, rfl, ?_⟩
  have hcount : count255 s.line.goodRun = 8 ↔ s.line.goodRun = 7 := by unfold count255; omega
  simp only [State.withLine_line, hcount]

/-- The counts of a good frame are read from the receiver's part of the line. -/
theorem State.goodFrameCounted_of_rx {s t u : State} (h : s.goodFrameCounted t) (hrx : Part.rx.same t u) :
    s.goodFrameCounted u := by
  obtain ⟨-, -, -, hstate, herr, hgood, -⟩ := hrx
  obtain ⟨h1, h2, h3⟩ := h
  exact ⟨herr.trans h1, hgood.trans h2, hstate.trans h3⟩

/-! ### Default records settled (R182, R183) -/

theorem RxFrame.claim?_kind {f : RxFrame} {c : ClaimFrame} (h : f.claim? = some c) : f.kind? = some .claim := by
  unfold RxFrame.claim? at h
  split at h
  · next hk => exact hk.1
  · cases h

theorem RxFrame.reply?_kind {f : RxFrame} {r : ReplyFrame} (h : f.reply? = some r) : f.kind? = some .reply := by
  unfold RxFrame.reply? at h
  split at h
  · next hk => exact hk.1
  · cases h

theorem RxFrame.claim?_none_of_reply {f : RxFrame} {r : ReplyFrame} (h : f.reply? = some r) : f.claim? = none := by
  refine Option.eq_none_iff_forall_ne_some.mpr fun c hc => ?_
  have := (RxFrame.claim?_kind hc).symm.trans (RxFrame.reply?_kind h)
  simp at this

theorem State.settles_eq_some_iff (s : State) (f : RxFrame) (who tag : Nat) :
    s.settles f = some (who, tag) ↔ s.settledBy f who tag := by
  unfold State.settles State.settledBy
  constructor
  · intro h
    split at h
    · next c hc =>
      split at h
      · next hk =>
        obtain ⟨rfl, rfl⟩ := Prod.mk.inj (Option.some.inj h)
        exact .inl ⟨c, hc, rfl, rfl, hk⟩
      · cases h
    · next r hc hr =>
      split at h
      · next hk =>
        obtain ⟨rfl, rfl⟩ := Prod.mk.inj (Option.some.inj h)
        exact .inr ⟨r, hr, rfl, rfl, hk⟩
      · cases h
    · cases h
  · rintro (⟨c, hc, rfl, rfl, hk⟩ | ⟨r, hr, rfl, rfl, hk⟩)
    · simp only [hc]; exact if_pos hk
    · simp only [RxFrame.claim?_none_of_reply hr, hr]; exact if_pos hk

/-- R182: the records of a list removed and their frames withdrawn, one after the other. -/
def State.dropAll (l : List DefaultRec) (s : State) : State :=
  l.foldl (fun s r => (s.dropRecord r.id).withdraw (Producer.ofRecord r.id)) s

/-- Whether a frame is one of the records of a list. -/
def TxFrame.ofRecords (l : List DefaultRec) (g : TxFrame) : Bool :=
  (g.owner.record.map fun n => l.any fun x => x.id == n).getD false

theorem TxFrame.ofRecords_cons (r : DefaultRec) (l : List DefaultRec) (g : TxFrame) :
    g.ofRecords (r :: l) = (g.owner.ofRecord r.id || g.ofRecords l) := by
  unfold TxFrame.ofRecords Producer.ofRecord
  cases g.owner.record with
  | none => rfl
  | some n =>
    have hcomm : (r.id == n) = (n == r.id) := Bool.beq_comm
    simp [hcomm]

theorem State.dropAll_records (l : List DefaultRec) (s : State) :
    (s.dropAll l).req.defaults = s.req.defaults.filter (fun r => !l.any fun x => x.id == r.id)
      ∧ (s.dropAll l).line.queue = s.line.queue.filter (fun g => !g.ofRecords l)
      ∧ (s.dropAll l).line.shifter
        = s.line.shifter.map fun g => if g.ofRecords l then { g with withdrawn := true } else g := by
  induction l generalizing s with
  | nil =>
    have hnone : ∀ g : TxFrame, g.ofRecords [] = false := fun g => by
      unfold TxFrame.ofRecords; cases g.owner.record <;> rfl
    simp [State.dropAll, hnone]
  | cons r l ih =>
    obtain ⟨hrec, hqueue, hshift⟩ := ih ((s.dropRecord r.id).withdraw (Producer.ofRecord r.id))
    refine ⟨hrec.trans ?_, hqueue.trans ?_, hshift.trans ?_⟩
    · change (s.req.defaults.filter _).filter _ = _
      rw [List.filter_filter]
      refine List.filter_congr fun x _ => ?_
      have hcomm : (r.id == x.id) = (x.id == r.id) := Bool.beq_comm
      simp [bne, hcomm, Bool.and_comm]
    · change (s.line.queue.filter _).filter _ = _
      rw [List.filter_filter]
      refine List.filter_congr fun g _ => ?_
      simp [TxFrame.ofRecords_cons, Bool.and_comm]
    · change (s.line.shifter.map _).map _ = _
      rw [Option.map_map]
      refine congrArg (Option.map · s.line.shifter) (funext fun g => ?_)
      simp only [Function.comp, TxFrame.ofRecords_cons]
      cases h : g.owner.ofRecord r.id
      · simp
      · have hmark : ({ g with withdrawn := true } : TxFrame).ofRecords l = g.ofRecords l := rfl
        simp [hmark]

/-- Settling records is dropping those of the requester and tag. -/
theorem State.settleRecords_settled {u : State} {f : RxFrame} {who tag : Nat} (h : u.settles f = some (who, tag)) :
    u.recordsSettled who tag (u.settleRecords f) := by
  have hact : u.settleRecords f = u.dropAll (u.req.defaults.filter fun r => r.requester == who && r.tag == tag) := by
    unfold State.settleRecords
    rw [h]
    rfl
  obtain ⟨hrec, hqueue, hshift⟩ :=
    u.dropAll_records (u.req.defaults.filter fun r => r.requester == who && r.tag == tag)
  rw [← hact] at hrec hqueue hshift
  have hgone : ∀ n, ((u.req.defaults.filter fun r => r.requester == who && r.tag == tag).any fun x => x.id == n)
      = u.req.defaults.any fun r => r.requester == who && r.tag == tag && r.id == n := fun n => List.any_filter
  simp only [TxFrame.ofRecords, hgone] at hrec hqueue hshift
  exact ⟨hrec, hqueue, hshift⟩

theorem State.settleRecords_of_none {u : State} {f : RxFrame} (h : u.settles f = none) : u.settleRecords f = u := by
  unfold State.settleRecords
  rw [h]

theorem State.recordsSettled_of_eq {s u t v : State} {who tag : Nat} (h : u.recordsSettled who tag t)
    (hreq : u.req.defaults = s.req.defaults) (hqueue : u.line.queue = s.line.queue)
    (hshift : u.line.shifter = s.line.shifter) (hvreq : v.req.defaults = t.req.defaults)
    (hvqueue : v.line.queue = t.line.queue) (hvshift : v.line.shifter = t.line.shifter) :
    s.recordsSettled who tag v := by
  unfold State.recordsSettled at h ⊢
  rw [hreq, hqueue, hshift] at h
  rw [hvreq, hvqueue, hvshift]
  exact h

/-! ### The table where nothing enters it -/

theorem State.reply_table_subset (e : ReqEntry) (res : Result) (why : Reason) (content : List Byte) (s : State) :
    (s.reply e res why content).req.table ⊆ s.req.table := by
  rw [State.reply_table]
  exact List.filter_subset_self _

theorem State.replyTo_table_subset (id : Nat) (res : Result) (why : Reason) (content : List Byte) (s : State) :
    (s.replyTo id res why content).req.table ⊆ s.req.table := by
  unfold State.replyTo
  split
  · exact State.reply_table_subset _ _ _ _ s
  · exact List.Subset.refl _

theorem foldl_table_subset {α : Type} {f : State → α → State} (hf : ∀ s a, (f s a).req.table ⊆ s.req.table) (l : List α)
    (s : State) : (l.foldl f s).req.table ⊆ s.req.table := by
  induction l generalizing s with
  | nil => exact List.Subset.refl _
  | cons a l ih => exact List.Subset.trans (ih (f s a)) (hf s a)

theorem State.queueRequest_table (owner : Producer) (what : SubReq) (s : State) :
    (s.queueRequest owner what).req.table = s.req.table := State.offer_table _ s

theorem State.closeOp_table_subset (o : OpRecord) (windDown : Bool) (answer : Option (Result × Reason)) (s : State) :
    (s.closeOp o windDown answer).req.table ⊆ s.req.table := by
  unfold State.closeOp
  dsimp only
  rw [State.signalOp, State.signalIf_req, State.withOp_req]
  refine List.Subset.trans (l₂ := (List.foldl (fun s e => State.queueWindDown e.what.target s) s
    (if windDown then o.subs.filter SubEntry.stillActing else [])).req.table) ?_
    (foldl_table_subset (fun s _ => by rw [State.queueWindDown, State.queueRequest_table]; exact List.Subset.refl _) _ s)
  split
  · exact State.replyTo_table_subset _ _ _ _ _
  · exact List.Subset.refl _

theorem State.displaceOp_table_subset (res : Result) (why : Reason) (s : State) :
    (s.displaceOp res why).req.table ⊆ s.req.table := by
  unfold State.displaceOp
  split
  · exact List.Subset.refl _
  · exact State.closeOp_table_subset _ _ _ s

theorem State.faultDrive_table_subset (s : State) : s.faultDrive.req.table ⊆ s.req.table := by
  unfold State.faultDrive
  split
  · exact List.Subset.refl _
  · dsimp only
    rw [State.holdDrive, State.setDrv_req]
    split
    · exact State.replyTo_table_subset _ _ _ _ s
    · exact List.Subset.refl _

theorem State.setNodeState_via (new : NodeState) (s : State) : s.via [.node, .mode, .pub, .drv] (s.setNodeState new) := by
  simp (maxDischargeDepth := 10)

theorem State.enterFault_table_subset (s : State) : s.enterFault.req.table ⊆ s.req.table := by
  have hfirst : (s.faultDrive.displaceOp .failed .ownerFault).req.table ⊆ s.req.table :=
    List.Subset.trans (State.displaceOp_table_subset _ _ _) s.faultDrive_table_subset
  unfold State.enterFault
  dsimp only
  rw [show ∀ u : State, (u.setNodeState .fault).req = u.req from fun u => (u.setNodeState_via .fault).same .req (by decide),
    State.withNode_req]
  split
  · exact List.Subset.trans (foldl_table_subset (fun s e => State.reply_table_subset e _ _ _ s) _ _) hfirst
  · exact hfirst

theorem State.faultWith_table_subset (k : FaultKind) (s : State) : (s.faultWith k).req.table ⊆ s.req.table := by
  unfold State.faultWith
  dsimp only
  split
  · rw [State.setFault_req]; exact List.Subset.refl _
  · exact List.Subset.trans (State.enterFault_table_subset _) (by rw [State.setFault_req]; exact List.Subset.refl _)

theorem State.noResetWaits_of_subset {s t : State} (h : s.noResetWaits) (ht : t.req.table ⊆ s.req.table) : t.noResetWaits :=
  fun e he => h e (ht he)

/-! ### DUPLICATE_STATION (R155) -/

theorem State.enterFault_faults (s : State) : s.enterFault.node.faults = s.node.faults := by
  have hfirst : s.via Part.ending (s.faultDrive.displaceOp .failed .ownerFault) := by
    simp (maxDischargeDepth := 10) [Part.ending, Part.publication]
  have hnode : (s.faultDrive.displaceOp .failed .ownerFault).node = s.node := hfirst.same .node (by decide)
  have hrefused : ∀ u : State, u.refuseHeld.node = u.node := fun u =>
    (show u.via [.line, .req] u.refuseHeld by simp).same .node (by decide)
  unfold State.enterFault
  dsimp only
  rw [State.setNodeState_node, State.withNode_node]
  dsimp only
  split
  · rw [State.unpark, State.withDrv_node, State.withNode_node, hrefused, hnode]
  · rw [hnode]

theorem State.faultWith_faults (k : FaultKind) (s : State) : (s.faultWith k).node.faults = s.node.faults.put k true := by
  unfold State.faultWith
  dsimp only
  split
  · rw [State.setFault_node]
  · rw [State.enterFault_faults, State.setFault_node]

/-- A silenced node publishes nothing at an event's end. -/
theorem State.finish_line_of_silenced {s : State} (h : s.silenced = true) : s.finish.line = s.line := by
  have hno : s.canPublish = false := by simp [State.canPublish, h]
  unfold State.finish
  split
  · simp [hno]
  · rfl

@[simp] theorem State.finish_pub_timer (s : State) : s.finish.pub.timer = s.pub.timer := by
  unfold State.finish
  split
  · dsimp only
    split
    · simp [State.buildPublish]
    · rfl
  · rfl

theorem State.duplicateStation_via (s : State) : s.via Part.nodeChange s.duplicateStation := by
  simp (maxDischargeDepth := 10) [Part.nodeChange, Part.ending, Part.publication]

theorem State.duplicateStation_silenced (s : State) : s.duplicateStation.node.faults.duplicateStation = true := by
  change (s.faultWith .duplicateStation).node.faults.duplicateStation = true
  rw [State.faultWith_faults]
  rfl

/-! ### A frame completes (R188, R191) -/

@[simp] theorem State.storeFrame_req (f : RxFrame) (s : State) : (s.storeFrame f).req = s.req := by
  unfold State.storeFrame; split <;> rfl

theorem State.storeFrame_line (f : RxFrame) (s : State) :
    (s.storeFrame f).line.queue = s.line.queue ∧ (s.storeFrame f).line.shifter = s.line.shifter
      ∧ (s.line.hold.length < 2 → (s.storeFrame f).line.hold = s.line.hold ++ [f])
      ∧ (2 ≤ s.line.hold.length → (s.storeFrame f).line.hold = s.line.hold ∧ (s.storeFrame f).line.lastError = .overrun) := by
  unfold State.storeFrame
  split
  · next h => exact ⟨rfl, rfl, fun _ => rfl, fun h' => absurd h (by omega)⟩
  · next h => exact ⟨rfl, rfl, fun h' => absurd h' h, fun _ => ⟨rfl, rfl⟩⟩

theorem exec_frameComplete_of_last {c : Byte} {s : State} (hrec : s.receives = true) (hrx : s.line.rx = .inFrame)
    (hlast : s.lastCharacter = true) :
    exec (.frameComplete c) s = .next (s.frameDone (s.line.chars ++ [c])).conclude := by
  change takenOnLine (s.receives && s.line.rx == .inFrame && s.lastCharacter)
    (fun s => s.frameDone (s.line.chars ++ [c])) s = _
  exact takenOnLine_of_occurs _ s (by simp [hrec, hrx, hlast])

/-- The receiver as a good frame leaves it. -/
def State.tookGoodFrame (s : State) : State := (s.withRx .hunting []).goodFrame

theorem State.tookGoodFrame_counted (s : State) : s.goodFrameCounted s.tookGoodFrame := State.goodFrame_counted rfl rfl

theorem State.frameDone_of_own {s : State} {chars : List Byte} {f : RxFrame} (hf : frameOfChars chars = some f)
    (hown : s.ownSource f = true) : s.frameDone chars = s.tookGoodFrame.duplicateStation := by
  simp only [State.frameDone, hf]
  exact if_pos hown

theorem State.frameDone_of_other {s : State} {chars : List Byte} {f : RxFrame} (hf : frameOfChars chars = some f)
    (hown : s.ownSource f = false) : s.frameDone chars = (s.tookGoodFrame.settleRecords f).storeFrame f := by
  simp only [State.frameDone, hf]
  exact if_neg (by rw [show ((s.withRx .hunting []).goodFrame).ownSource f = s.ownSource f from rfl, hown]; decide)

theorem State.dropAll_table (l : List DefaultRec) (s : State) : (s.dropAll l).req.table = s.req.table := by
  induction l generalizing s with
  | nil => rfl
  | cons r l ih => exact ih _

theorem State.settleRecords_table (f : RxFrame) (s : State) : (s.settleRecords f).req.table = s.req.table := by
  unfold State.settleRecords
  split
  · rfl
  · exact State.dropAll_table _ s

/-- R155: the node's own station number in a received frame. -/
theorem frameComplete_of_own {c : Byte} {s : State} {f : RxFrame} (hexec : exec (.frameComplete c) s
    = .next (s.frameDone (s.line.chars ++ [c])).conclude) (hr : s.noResetWaits)
    (hf : frameOfChars (s.line.chars ++ [c]) = some f) (hown : s.ownSource f = true) :
    ∃ t, exec (.frameComplete c) s = .next t ∧ t.line.rx = .hunting ∧ s.goodFrameCounted t ∧ t.node.state = .fault
      ∧ t.node.faults.duplicateStation = true ∧ t.line.queue = [] ∧ t.pub.timer = none ∧ t.req.defaults = []
      ∧ t.line.hold = s.line.hold := by
  have htable : s.tookGoodFrame.duplicateStation.req.table ⊆ s.req.table :=
    State.faultWith_table_subset _ s.tookGoodFrame
  rw [State.frameDone_of_own hf hown, State.conclude_of_noResetWaits (State.noResetWaits_of_subset hr htable)] at hexec
  have hrxs : Part.rx.same s.tookGoodFrame s.tookGoodFrame.duplicateStation.finish :=
    Part.same_trans (State.duplicateStation_via _ |>.same .rx (by decide)) (State.finish_rx _)
  refine ⟨_, hexec, hrxs.1, State.goodFrameCounted_of_rx s.tookGoodFrame_counted hrxs, ?_, ?_, ?_, ?_, ?_, hrxs.2.2.1⟩
  · rw [State.finish_node]; exact State.faultWith_state _ _
  · rw [State.finish_node]; exact State.duplicateStation_silenced _
  · rw [State.finish_line_of_silenced (State.duplicateStation_silenced _)]; rfl
  · rw [State.finish_pub_timer]; rfl
  · rw [State.finish_req]; rfl

/-- R182, R191: a good frame of another station settles its records and is stored. -/
theorem frameComplete_of_other {c : Byte} {s : State} {f : RxFrame} (hexec : exec (.frameComplete c) s
    = .next (s.frameDone (s.line.chars ++ [c])).conclude) (hs : s.settled) (hr : s.noResetWaits)
    (hf : frameOfChars (s.line.chars ++ [c]) = some f) (hown : s.ownSource f = false) :
    ∃ t, exec (.frameComplete c) s = .next t ∧ t.line.rx = .hunting ∧ s.goodFrameCounted t
      ∧ (∀ who tag, s.settledBy f who tag → s.recordsSettled who tag t)
      ∧ ((∀ who tag, ¬s.settledBy f who tag) →
          t.req = s.req ∧ t.line.queue = s.line.queue ∧ t.line.shifter = s.line.shifter)
      ∧ (s.line.hold.length < 2 → t.line.hold = s.line.hold ++ [f])
      ∧ (2 ≤ s.line.hold.length → t.line.hold = s.line.hold ∧ t.line.lastError = .overrun) := by
  let u := s.tookGoodFrame.settleRecords f
  have hvia : s.tookGoodFrame.via [.line, .req] u := by simp [u]
  have hpub : (u.storeFrame f).pub = s.pub :=
    (show s.via [.rx, .line, .req] (u.storeFrame f) by
      simp (maxDischargeDepth := 10) [u, State.tookGoodFrame]).same .pub (by decide)
  have htable : (u.storeFrame f).req.table = s.req.table := by
    rw [State.storeFrame_req]; exact State.settleRecords_table f _
  rw [State.frameDone_of_other hf hown, State.conclude_unsignalled hs hr hpub htable] at hexec
  obtain ⟨hqueue, hshift, hroom, hfull⟩ := u.storeFrame_line f
  have hrxs : Part.rx.same s.tookGoodFrame u := hvia.same .rx (by decide)
  have hhold : u.line.hold = s.line.hold := hrxs.2.2.1
  have hsettles : s.tookGoodFrame.settles f = s.settles f := rfl
  have hrx : (u.storeFrame f).line.rx = u.line.rx ∧ (u.storeFrame f).line.errRun = u.line.errRun
      ∧ (u.storeFrame f).line.goodRun = u.line.goodRun ∧ (u.storeFrame f).line.state = u.line.state := by
    unfold State.storeFrame; split <;> exact ⟨rfl, rfl, rfl, rfl⟩
  obtain ⟨hrxs', herr, hgood, hstate⟩ := hrx
  obtain ⟨h1, h2, h3⟩ := State.goodFrameCounted_of_rx s.tookGoodFrame_counted hrxs
  refine ⟨_, hexec, hrxs'.trans hrxs.1, ⟨herr.trans h1, hgood.trans h2, hstate.trans h3⟩, fun who tag h => ?_, fun h => ?_,
    fun h => ?_, fun h => ?_⟩
  · have hset := State.settleRecords_settled (hsettles.trans ((s.settles_eq_some_iff f who tag).mpr h))
    exact State.recordsSettled_of_eq hset rfl rfl rfl (by rw [State.storeFrame_req]) hqueue hshift
  · have hnone : s.settles f = none := Option.eq_none_iff_forall_ne_some.mpr fun p hp =>
      h p.1 p.2 ((s.settles_eq_some_iff f _ _).mp hp)
    have hu : u = s.tookGoodFrame := State.settleRecords_of_none (hsettles.trans hnone)
    rw [State.storeFrame_req, hqueue, hshift, hu]
    exact ⟨rfl, rfl, rfl⟩
  · rw [hroom (by rw [hhold]; exact h), hhold]
  · obtain ⟨hh, he⟩ := hfull (by rw [hhold]; exact h)
    exact ⟨hh.trans hhold, he⟩

/-- Settles O36: the frame that its last character completes, by its CRC and its SRC. -/
theorem framesCompleteOrFailTheirCheck : Obligations.FramesCompleteOrFailTheirCheck := by
  unfold Obligations.FramesCompleteOrFailTheirCheck
  intro c s hrec hs hr hrx hlast
  have hexec := exec_frameComplete_of_last (c := c) hrec hrx hlast
  refine ⟨fun hbad => ?_, fun f hf => ?_⟩
  · have hact : s.frameDone (s.line.chars ++ [c]) = (s.withRx .hunting []).receiveError .crc := by
      simp only [State.frameDone, hbad]
    rw [hact, State.conclude_unsignalled hs hr (by simp [State.withRx]) (by simp [State.withRx])] at hexec
    exact ⟨_, hexec, State.receiveError_rx _ _, State.receiveError_counted _ rfl rfl rfl, State.receiveError_hold _ _⟩
  · cases hown : s.ownSource f with
    | true =>
      obtain ⟨t, ht, hrxt, hcount, hrest⟩ := frameComplete_of_own hexec hr hf hown
      exact ⟨t, ht, hrxt, hcount, by simp, by simp, by simp, by simp, fun _ => hrest⟩
    | false =>
      obtain ⟨t, ht, hrxt, hcount, hset, hnot, hroom, hfull⟩ := frameComplete_of_other hexec hs hr hf hown
      exact ⟨t, ht, hrxt, hcount, fun _ => hset, fun _ => hnot, fun _ => hroom, fun _ => hfull, by simp⟩

/-! ### The sharing after a recomputation (R138, R141) -/

theorem State.judgeGuard_capacity (s : State) : s.judgeGuard.share.capacity = s.share.capacity := by
  unfold State.judgeGuard
  dsimp only
  repeat' split
  all_goals simp

@[simp] theorem State.signalIf_timer (b : Bool) (s : State) : (s.signalIf b).pub.timer = s.pub.timer := by cases b <;> rfl

@[simp] theorem State.setFault_timer (k : FaultKind) (s : State) : (s.setFault k).pub.timer = s.pub.timer := by
  simp [State.setFault]

@[simp] theorem State.clearFault_timer (k : FaultKind) (s : State) : (s.clearFault k).pub.timer = s.pub.timer := by
  simp [State.clearFault]

@[simp] theorem State.signal_timer (s : State) : s.signal.pub.timer = s.pub.timer := rfl

theorem State.recompute_timer (s : State) : s.recompute.pub.timer = s.pub.timer := by
  unfold State.recompute State.judgeGuard
  dsimp only
  repeat' split
  all_goals simp

@[simp] theorem State.recompute_capacity (s : State) :
    s.recompute.share.capacity = capacityIn s.node.setup.capFallback s.peers := State.judgeGuard_capacity _

@[simp] theorem State.recompute_ownClaim (s : State) : s.recompute.share.ownClaim = s.share.ownClaim :=
  State.judgeGuard_claim _

@[simp] theorem State.recompute_grant (s : State) : s.recompute.share.grant
    = if s.share.ownClaim.cls = .noClass then 0
      else ownGrant s.station (capacityIn s.node.setup.capFallback s.peers) s.peers := State.judgeGuard_grant _

/-! ### An offer with room -/

theorem State.offer_of_room {f : TxFrame} {s : State} (hs : s.silenced = false) (hl : s.line.queue.length < 6)
    (hf : f.isPublish = false) : s.offer f = s.withQueue (enterAtTail f s.line.queue) := by
  unfold State.offer State.offerAt
  dsimp only
  rw [if_neg (by simp [hs]), if_neg (by simp [hf]), if_pos hl]

theorem State.offerAll_req {fs : List TxFrame} {s : State} (hs : s.silenced = false)
    (hl : s.line.queue.length + fs.length ≤ 6) (hf : ∀ f ∈ fs, f.isPublish = false) : (s.offerAll fs).req = s.req := by
  induction fs generalizing s with
  | nil => rfl
  | cons f fs ih =>
    rw [List.length_cons] at hl
    have hlen := State.length_offer f s
    rw [State.offerAll_cons, ih (by simp [hs]) (by omega) fun g hg => hf g (List.mem_cons_of_mem f hg),
      State.offer_of_room hs (by omega) (hf f List.mem_cons_self)]
    rfl

/-! ### A sub-request entry and a default record changed -/

theorem find?_map_update {α : Type} {p : α → Bool} {f : α → α} (hf : ∀ x, p (f x) = p x) (l : List α) :
    (l.map fun x => if p x then f x else x).find? p = (l.find? p).map f := by
  induction l with
  | nil => rfl
  | cons x l ih =>
    by_cases h : p x = true
    · simp [h, hf]
    · simp [h, ih]

theorem State.subWith_mapSub {tag : Nat} {f : SubEntry → SubEntry} (hf : ∀ e, (f e).tag = e.tag) (s : State) :
    (s.mapSub tag f).subWith tag = (s.subWith tag).map f := by
  unfold State.mapSub
  cases ho : s.op with
  | none => simp [State.subWith, ho]
  | some o =>
    simp only [State.subWith, State.withOp_op, Option.bind_some, ho]
    exact find?_map_update (p := fun e : SubEntry => e.tag == tag) (fun e => by simp [hf]) o.subs

theorem State.subWith_of_op {s t : State} (h : t.op = s.op) (tag : Nat) : t.subWith tag = s.subWith tag := by
  rw [State.subWith, State.subWith, h]

theorem State.recordOf_of_req {s t : State} (h : t.req = s.req) (n : Nat) : t.recordOf n = s.recordOf n := by
  rw [State.recordOf, State.recordOf, h]

theorem State.recordOf_dropRecord (n : Nat) (s : State) : (s.dropRecord n).recordOf n = none := by
  refine List.find?_eq_none.mpr fun r hr => ?_
  simpa using (List.mem_filter.mp hr).2

theorem State.id_of_recordOf {n : Nat} {s : State} {r : DefaultRec} (h : s.recordOf n = some r) : r.id = n := by
  simpa using List.find?_some h

/-! ### The completion of an own frame (R191) -/

/-- The state in which a completed frame is reported. -/
def State.afterSent (s : State) : State := ((s.withRx .hunting []).clearShifter).goodFrame

theorem State.afterSent_via (s : State) : s.via [.rx, .line] s.afterSent := by
  simp (maxDischargeDepth := 6) [State.afterSent]

theorem State.afterSent_counted (s : State) : s.goodFrameCounted s.afterSent := State.goodFrame_counted rfl rfl

theorem State.frameSent_of_shifter {s : State} {f : TxFrame} (h : s.line.shifter = some f) :
    s.frameSent = s.afterSent.report f := by
  unfold State.frameSent
  rw [h]
  rfl

theorem State.queueRequest_shifter (owner : Producer) (what : SubReq) (s : State) :
    (s.queueRequest owner what).line.shifter = s.line.shifter := State.offer_shifter _ s

theorem State.opPublished_shifter (n : Nat) (s : State) : (s.opPublished n).line.shifter = s.line.shifter := by
  unfold State.opPublished
  split
  · rfl
  · split
    · unfold State.queueSub
      split
      · rfl
      · exact State.queueRequest_shifter _ _ _
    · rfl

theorem State.opPublished_table (n : Nat) (s : State) : (s.opPublished n).req.table = s.req.table := by
  unfold State.opPublished
  split
  · rfl
  · split
    · unfold State.queueSub
      split
      · rfl
      · exact State.queueRequest_table _ _ _
    · rfl

/-- What is reported of a completed PUBLISH before the operation hears of it. -/
def State.publishedOwn (payload : List Byte) (s : State) : State :=
  let s := s.fillOwnEntry payload
  (if s.silenced then s else s.startPeriodic).recompute

theorem State.published_eq (n : Nat) (payload : List Byte) (s : State) :
    s.published n payload = (s.publishedOwn payload).opPublished n := rfl

theorem State.publishedOwn_via (payload : List Byte) (s : State) :
    s.via [.node, .peers, .share, .pub] (s.publishedOwn payload) := by
  unfold State.publishedOwn
  refine State.via_recompute (State.via_ite ?_ ?_) (by decide) (by decide) (by decide) <;> intro _ <;> simp

theorem State.report_table (f : TxFrame) (s : State) : (s.report f).req.table = s.req.table := by
  unfold State.report
  split
  · rw [State.published_eq, State.opPublished_table]
    exact congrArg RequestUnit.table ((State.publishedOwn_via _ s).same .req (by decide))
  · split
    · exact State.queueRequest_table _ _ s
    · unfold State.subSent State.mapSub
      split <;> rfl
  · unfold State.defaultClaimSent
    split
    · rfl
    · exact State.offerAll_table _ _
  · rfl
  · rfl

theorem State.report_shifter (f : TxFrame) (s : State) : (s.report f).line.shifter = s.line.shifter := by
  unfold State.report
  split
  · rw [State.published_eq, State.opPublished_shifter]
    exact congrArg LinePort.shifter ((State.publishedOwn_via _ s).same .line (by decide))
  · split
    · exact State.queueRequest_shifter _ _ s
    · unfold State.subSent State.mapSub
      split <;> rfl
  · unfold State.defaultClaimSent
    split
    · rfl
    · exact State.offerAll_shifter _ _
  · rfl
  · rfl

theorem State.report_rx (f : TxFrame) (s : State) : Part.rx.same s (s.report f) :=
  (show s.via [.node, .line, .req, .peers, .share, .op, .pub] (s.report f) by simp).same .rx (by decide)

theorem exec_txComplete_of_shifter {s : State} {f : TxFrame} (h : s.line.shifter = some f) (hr : s.noResetWaits) :
    exec .txComplete s = .next (s.afterSent.report f).finish := by
  change takenOnLine s.line.shifter.isSome State.frameSent s = _
  rw [takenOnLine_of_occurs _ s (by simp [h]), State.frameSent_of_shifter h, State.conclude_of_noResetWaits]
  exact State.noResetWaits_of_table hr (State.report_table f _)

/-- R137, R153, R159: an own PUBLISH has completed. -/
theorem State.publishedOwn_spec {s : State} {payload : List Byte} {p : Publication}
    (hp : readPublication payload = some p) (hs : s.silenced = false) :
    (s.publishedOwn payload).peers = putPeer (acceptedPeer s.station p) s.peers
      ∧ (s.publishedOwn payload).share.ownClaim = (acceptedPeer s.station p).claim
      ∧ (s.publishedOwn payload).pub.timer = Timer.ms s.declaredPeriod
      ∧ (s.publishedOwn payload).share.capacity
        = capacityIn s.node.setup.capFallback (s.publishedOwn payload).peers
      ∧ (s.publishedOwn payload).share.grant = (if (s.publishedOwn payload).share.ownClaim.cls = .noClass then 0
          else ownGrant s.station (s.publishedOwn payload).share.capacity (s.publishedOwn payload).peers) := by
  let filled := s.fillOwnEntry payload
  have hfilled : filled = (s.withPeers (putPeer (acceptedPeer s.station p) s.peers)).withShare
      { s.share with ownClaim := (acceptedPeer s.station p).claim } := by
    simp only [filled, State.fillOwnEntry, hp]
    rfl
  have hnode : filled.node = s.node := by rw [hfilled]; rfl
  have hown : s.publishedOwn payload = (filled.startPeriodic).recompute := by
    have hsil : filled.silenced = false := by rw [State.silenced, hnode]; exact hs
    change (if filled.silenced then filled else filled.startPeriodic).recompute = _
    rw [hsil]
    rfl
  have hvia : filled.startPeriodic.via [.node, .pub, .share] filled.startPeriodic.recompute := by simp
  have hpeers : (filled.startPeriodic.recompute).peers = putPeer (acceptedPeer s.station p) s.peers :=
    (hvia.same .peers (by decide)).trans (by rw [hfilled]; rfl)
  rw [hown, hpeers, State.recompute_capacity, State.recompute_ownClaim, State.recompute_grant, State.recompute_timer]
  refine ⟨rfl, by rw [hfilled]; rfl, ?_, by rw [hfilled]; rfl, by rw [hfilled]; rfl⟩
  rw [State.startPeriodic, State.withPub_pub, State.declaredPeriod, hnode]
  rfl

/-- R50, R69: what the operation does at a completed PUBLISH leaves its fields. -/
theorem State.opPublished_via (n : Nat) (s : State) : s.via [.line, .req, .op] (s.opPublished n) := by simp

/-- R50: the entry of a completed REQUEST. -/
theorem State.subWith_subSent (tag : Nat) (s : State) : (s.subSent tag).subWith tag = (s.subWith tag).map fun e =>
    { e with sent := true, sendBound := none, sendExpired := false, slow := s.bitTimes 1200,
             deadline := Timer.ms e.what.deadline } :=
  State.subWith_mapSub (by intro e; rfl) s

/-- R57: with room a wind-down HOLD is queued. -/
theorem State.queueWindDown_queued {role : Role} {s : State} (h : s.hasRoom 1) : (s.queueWindDown role).queued
    [requestFrame .windDown (holdFor role).fn s.req.tagCtr ((holdFor role).args s.node.setup)] := by
  intro g hg
  rw [List.mem_singleton.mp hg]
  exact State.mem_offer _ s h.1 (by have := h.2; omega)

/-- R181: with room the completion of a DEFAULT CLAIM queues the NO_OWNER REPLY of its record. -/
theorem State.defaultClaimSent_spec {n : Nat} {r : DefaultRec} {s : State} (hrec : s.recordOf n = some r)
    (h : s.hasRoom 1) : (s.defaultClaimSent n).recordOf n = some { r with status := .replyQueued }
      ∧ (s.defaultClaimSent n).queued (replyFrames (.defaultReply n) r.requester r.tag r.fn .noOwner .noReason []) := by
  obtain ⟨hs, hl⟩ := h
  have hreplies := fun g (hg : g ∈ replyFrames (.defaultReply n) r.requester r.tag r.fn .noOwner .noReason []) =>
    replyFrames_not_publish hg
  have hfind : s.req.defaults.find? (fun r => r.id == n) = some r := hrec
  have hsent : s.defaultClaimSent n
      = (s.withReq { s.req with defaults := s.req.defaults.map fun x : DefaultRec =>
          if x.id == n then { x with status := .replyQueued } else x }).offerAll
        (replyFrames (.defaultReply n) r.requester r.tag r.fn .noOwner .noReason []) := by
    unfold State.defaultClaimSent
    rw [hfind]
  rw [hsent]
  refine ⟨?_, State.queued_offerAll _ _ hs (by simpa using hl) hreplies⟩
  refine (State.recordOf_of_req (State.offerAll_req ?_ (by simpa using hl) hreplies) n).trans ?_
  · exact hs
  have hmap := find?_map_update (p := fun x : DefaultRec => x.id == n)
    (f := fun x => { x with status := .replyQueued }) (fun _ => rfl) s.req.defaults
  rw [hfind] at hmap
  exact hmap

/-- Settles O39: the completion of a frame, by its owner. -/
theorem completedPublishFillsTheOwnEntry : Obligations.CompletedPublishFillsTheOwnEntry := by
  unfold Obligations.CompletedPublishFillsTheOwnEntry
  intro s f hf hr
  let u := s.afterSent
  have hexec : exec .txComplete s = .next (u.report f).finish := exec_txComplete_of_shifter hf hr
  have hu : s.via [.rx, .line] u := s.afterSent_via
  have hnode : u.node = s.node := hu.same .node (by decide)
  have hreq : u.req = s.req := hu.same .req (by decide)
  have hroom : s.hasRoom 1 → u.hasRoom 1 := fun h => State.hasRoom_of_eq h (by rw [hnode]) rfl
  refine ⟨_, hexec, ?_, ?_, ?_, ?_, ?_, ?_, ?_⟩
  · rw [State.finish_shifter, State.report_shifter]; rfl
  · exact State.goodFrameCounted_of_rx s.afterSent_counted
      (Part.same_trans (State.report_rx f u) (State.finish_rx _))
  · intro tag role x hown hw hx
    have hact : u.report f = u.subSent tag := by simp [State.report, hown, hw]
    rw [hact, State.subWith_of_op (State.finish_op _), State.subWith_subSent,
      State.subWith_of_op (hu.same .op (by decide)), hx]
    rfl
  · intro tag role hown hw hq
    have hact : u.report f = u.queueWindDown role := by simp [State.report, hown, hw]
    rw [hact, ← hnode, ← hreq]
    exact State.queued_finish (State.queueWindDown_queued (hroom hq)) fun g hg => by rw [List.mem_singleton.mp hg]; rfl
  · intro n r hown hx hq
    have hact : u.report f = u.defaultClaimSent n := by simp [State.report, hown]
    obtain ⟨hrec, hqueued⟩ := State.defaultClaimSent_spec ((State.recordOf_of_req hreq n).trans hx) (hroom hq)
    rw [hact, State.recordOf_of_req (State.finish_req _)]
    exact ⟨hrec, State.queued_finish hqueued fun _ hg => replyFrames_not_publish hg⟩
  · intro n hown
    have hact : u.report f = u.dropRecord n := by simp [State.report, hown]
    rw [hact, State.recordOf_of_req (State.finish_req _)]
    exact State.recordOf_dropRecord n u
  · intro n p hown hp hs
    have hact : u.report f = (u.publishedOwn f.payload).opPublished n := by simp [State.report, hown, State.published_eq]
    obtain ⟨hpeers, hclaim, htimer, hcap, hgrant⟩ :=
      State.publishedOwn_spec (s := u) hp (by rw [State.silenced, hnode]; exact hs)
    have hop := State.opPublished_via n (u.publishedOwn f.payload)
    have hpeersT : (u.report f).finish.peers = (u.publishedOwn f.payload).peers := by
      rw [State.finish_peers, hact]; exact hop.same .peers (by decide)
    have hshareT : (u.report f).finish.share = (u.publishedOwn f.payload).share := by
      rw [State.finish_share, hact]; exact hop.same .share (by decide)
    have htimerT : (u.report f).finish.pub.timer = (u.publishedOwn f.payload).pub.timer := by
      rw [State.finish_pub_timer, hact]; exact congrArg Assembler.timer (hop.same .pub (by decide))
    have hst : u.station = s.station := by rw [State.station, hnode]; rfl
    have hper : u.declaredPeriod = s.declaredPeriod := by rw [State.declaredPeriod, hnode]; rfl
    rw [hpeersT, hshareT, htimerT, hcap, hgrant]
    rw [hst] at hpeers hclaim
    refine ⟨?_, fun k hk => ?_, hclaim, by rw [htimer, hper], by rw [hnode], by rw [hst, hcap, hnode]⟩
    · rw [hpeers]; exact entryAt_putPeer_same (acceptedPeer s.station p) _
    · rw [hpeers]
      exact (entryAt_putPeer_other (p := acceptedPeer s.station p) (fun h => hk h.symm) _).trans
        (congrArg (entryAt k) (hu.same .peers (by decide)))

/-! ### The publication of an event (R160) -/

/-- An offer that the queue takes touches the queue alone. -/
theorem State.offer_publish_of_room {f : TxFrame} {s : State} (hs : s.silenced = false) (hf : f.isPublish = true)
    (hroom : s.line.queue.length < 6 ∨ s.publishQueued = true) : ∃ q, s.offer f = s.withQueue q ∧ f ∈ q := by
  unfold State.offer State.offerAt
  dsimp only
  rw [if_neg (by simp [hs])]
  by_cases hq : s.line.queue.any TxFrame.isPublish = true
  · rw [if_pos (by simp [hf, hq])]
    obtain ⟨g, hg, hgp⟩ := List.any_eq_true.mp hq
    exact ⟨_, rfl, List.mem_map.mpr ⟨g, hg, if_pos hgp⟩⟩
  · have hlen : s.line.queue.length < 6 := hroom.resolve_right hq
    rw [if_neg (by simp [hq]), if_pos hlen]
    exact ⟨_, rfl, (enters_tail.mem f _ f).mpr (.inl rfl)⟩

theorem State.silenced_of_canPublish {s : State} (h : s.canPublish = true) : s.silenced = false := by
  simp only [State.canPublish, Bool.and_eq_true, Bool.not_eq_true'] at h
  exact h.1.2

/-- R160: a signalled event of a node that publishes ends with a PUBLISH of its state, where the queue takes one. -/
theorem State.finish_queuesPublication {s : State} (hsig : s.pub.signal = true) (hcan : s.canPublish = true)
    (hroom : s.line.queue.length < 6 ∨ s.publishQueued = true) : s.finish.publicationQueued := by
  obtain ⟨q, hq, hmem⟩ := State.offer_publish_of_room
    (s := (s.withPub { s.pub with signal := false }).withPub { s.pub with signal := false, builds := s.pub.builds + 1 })
    (f := s.publishFrame) (State.silenced_of_canPublish hcan) rfl hroom
  have hfinish : s.finish = ((s.withPub { s.pub with signal := false }).withPub
      { s.pub with signal := false, builds := s.pub.builds + 1 }).withQueue q := by
    rw [← hq, State.finish, if_pos hsig]
    exact if_pos hcan
  rw [hfinish]
  exact ⟨s.publishFrame, hmem, rfl, rfl⟩

/-! ### A read-back failure of a queue past its bound (R194, R195)

The fourth part of O38 does not ask for a sound state. In a queue longer than its six places, whose one PUBLISH is a
default record's, the failure drops that PUBLISH with the records (R180), and six other frames are left: neither the
lost PUBLISH nor that of the event finds a place. -/

/-- A PUBLISH with an owner. -/
def publishOf (owner : Producer) : TxFrame := { kind := .publish, payload := [], owner := owner, withdrawn := false }

/-- A node in RUN that sends a PUBLISH, with six CLAIMs and a default record's PUBLISH in its queue. -/
def crowdedSender : State :=
  (State.reset.withNode { State.reset.node with state := .run }).withLine
    { State.reset.line with
      shifter := some (publishOf .nodeControl)
      queue := List.replicate 6 (claimFrame .requestUnit 9 1 Fn.lift 0) ++ [publishOf (.defaultClaim 0)] }

theorem crowdedSender_readBackFailure :
    ∃ t, exec .readBackFailure crowdedSender = .next t ∧ ∀ f ∈ t.line.queue, f.kind ≠ .publish := by
  refine ⟨_, rfl, ?_⟩
  decide

/-- Refutes O38: the fourth part fails in `crowdedSender`. -/
theorem not_lostFramesReturnToTheHeadOfTheirClass : ¬ Obligations.LostFramesReturnToTheHeadOfTheirClass := by
  unfold Obligations.LostFramesReturnToTheHeadOfTheirClass
  intro h
  obtain ⟨-, -, -, hpublish, -⟩ := h crowdedSender (publishOf .nodeControl) rfl rfl (fun _ he => nomatch he)
    (by decide)
  obtain ⟨t, ht, -, ⟨f, hf, hkind, -⟩, -⟩ := hpublish rfl rfl (by decide) rfl (.inr (by decide))
  obtain ⟨u, hu, hnone⟩ := crowdedSender_readBackFailure
  obtain rfl := Host.Outcome.next.inj (ht.symm.trans hu)
  exact hnone f hf hkind

end Sys2Proof.Machine

/-! ## Resets -/

namespace Sys2Proof.Machine

/-! ### Resets (R209) -/

theorem State.wasReset_resetWith (cause : ResetCause) (prior : PriorState) (pins : Straps) (s : State) :
    s.wasReset cause prior pins (s.resetWith cause prior pins) := by
  refine ⟨rfl, ?_, ?_, ?_, ?_, ?_, ?_⟩
  all_goals simp [NodeCtl.isReset, LinePort.isReset, State.tablesReset, Tracker.isReset, LockMonitor.isReset,
    Drive.isReset, State.resetWith, State.afterReset, NodeCtl.afterReset, LinePort.reset, RequestUnit.reset,
    Assembler.reset, ShareArbiter.reset, Tracker.reset, LockMonitor.reset, Drive.reset, Timer.ms]

/-- Settles O13: the three resets with pins are `State.resetWith`. -/
theorem resetsLeaveEveryBlockAtItsResetValues : Obligations.ResetsLeaveEveryBlockAtItsResetValues := by
  unfold Obligations.ResetsLeaveEveryBlockAtItsResetValues
  intro pins s
  have hprior : priorOf s.node.state = (match s.node.state with
      | .parked => .parked | .stopped => .stopped | .run => .run
      | .listen => .other | .setup => .other | .ready => .other | .fault => .other) := by
    cases s.node.state <;> rfl
  exact ⟨⟨_, rfl, State.wasReset_resetWith _ _ _ s⟩, ⟨_, rfl, State.wasReset_resetWith _ _ _ s⟩,
    ⟨_, rfl, hprior ▸ State.wasReset_resetWith _ _ _ s⟩⟩

/-! ### RESET_NODE (R209) -/

/-- A RESET_NODE whose CLAIM waits in the queue of a NORMAL line is not due. -/
theorem State.resetDue_of_queued {s : State} (hline : s.line.state = .normal)
    (h : ∀ e ∈ s.req.table, e.fn = Fn.resetNode → ∃ f ∈ s.line.queue, f.owner = .resetClaim e.id) : s.resetDue = false := by
  refine List.any_eq_false.mpr fun e he => ?_
  by_cases hfn : e.fn = Fn.resetNode
  · obtain ⟨f, hf, hown⟩ := h e he hfn
    have hany : s.line.queue.any (TxFrame.claimsReset e.id) = true :=
      List.any_eq_true.mpr ⟨f, hf, by simp [TxFrame.claimsReset, hown]⟩
    simp [State.entryResetDue, hany, hline]
  · simp [State.entryResetDue, hfn]

/-- A RESET_NODE whose CLAIM stands neither in the queue nor in the shifter is due. -/
theorem State.resetDue_of_sent {s : State} {e : ReqEntry} (he : e ∈ s.req.table) (hfn : e.fn = Fn.resetNode)
    (hst : e.state = .claimed) (hshift : s.line.shifter = none) (hq : ∀ g ∈ s.line.queue, g.owner ≠ .resetClaim e.id) :
    s.resetDue = true := by
  have hnone : s.line.queue.any (TxFrame.claimsReset e.id) = false :=
    List.any_eq_false.mpr fun g hg => by simpa [TxFrame.claimsReset] using hq g hg
  exact List.any_eq_true.mpr ⟨e, he, by simp [State.entryResetDue, hfn, hst, hshift, hnone]⟩

theorem execResetNode_of_taken {s : State} {r : Request} {n : Nat} (ha : s.asks .resetNode r) (h : s.takesRequest r n) :
    exec .resetNode s = .next ((takeResetNode (r.entry s.req.nextId) (s.claimed r)).conclude) := by
  obtain ⟨f, hh, hf⟩ := ha
  have hfn : r.fn = Fn.resetNode := State.asks_fn ⟨f, hh, hf⟩ (row := .resetNode) rfl
  have hact : (s.dropHeld).handleRequest takeResetNode f = takeResetNode (r.entry s.req.nextId) (s.claimed r) := by
    unfold State.handleRequest
    rw [hf]
    dsimp only
    rw [State.enterRequest_takes _ h]
    refine State.gated_taken ?_
    change gate _ r.fn = _
    rw [hfn]
    rfl
  change execResetNode s = _
  unfold execResetNode
  rw [State.headIs_of_heads hh]
  dsimp only
  rw [hact]

theorem State.claimed_line_state (r : Request) (s : State) : (s.claimed r).line.state = s.line.state :=
  (State.claimed_rx r).2.2.2.1

theorem State.line_normal_of_claims {s : State} {b : Bool} (h : s.claims b = true) : s.line.state = .normal := by
  simp only [State.claims, Bool.and_eq_true, beq_iff_eq] at h
  exact h.1.1

/-- Settles O14: the RESET_NODE that waits, the one with bad arguments, and the completion of its CLAIM. -/
theorem resetNodeResetsWhenItsClaimCompletes : Obligations.ResetNodeResetsWhenItsClaimCompletes := by
  unfold Obligations.ResetNodeResetsWhenItsClaimCompletes
  refine ⟨fun s r ha h hr hs hargs => ?_, fun s r ha h hr hs hargs => ?_, fun s f e hshift hown he hfn hst hq => ?_⟩
  · have hfn : r.fn = Fn.resetNode := State.asks_fn ha (row := .resetNode) rfl
    have hclaim : s.claimOfRequest r = claimFrame (.resetClaim s.req.nextId) r.requester r.tag Fn.resetNode 0 := by
      rw [State.claimOfRequest, if_pos hfn, hfn]
    have hmem := State.claimed_queued h le_rfl
    have hact : takeResetNode (r.entry s.req.nextId) (s.claimed r) = s.claimed r :=
      if_pos (by simp [stationArgOnly, Request.entry, hargs])
    have hwait : (s.claimed r).resetDue = false := by
      refine State.resetDue_of_queued ((State.claimed_line_state r s).trans (State.line_normal_of_claims h.1)) ?_
      intro e he hefn
      rw [State.claimed_table] at he
      rcases List.mem_append.mp he with he | he
      · exact absurd hefn (hr e he)
      · rw [List.mem_singleton.mp he]
        exact ⟨_, hmem, by rw [hclaim]; rfl⟩
    have hexec : exec .resetNode s = .next (s.claimed r) := by
      rw [execResetNode_of_taken ha h, hact, State.conclude, if_neg (by simp [hwait]),
        State.finish_eq_of_settled hs _ (by simp)]
    refine ⟨_, hexec, State.claimed_table r s, fun g hg => ?_, by simp, fun p hp => ?_⟩
    · rw [List.mem_singleton.mp hg, ← hclaim]
      exact hmem
    · cases p <;> simp [Part.same] at hp ⊢
  · have hact : takeResetNode (r.entry s.req.nextId) (s.claimed r)
        = (s.claimed r).reply (r.entry s.req.nextId) .badArgs :=
      if_neg (by simp [stationArgOnly, Request.entry, hargs])
    have hans : s.answers r .badArgs .noReason [] _ := State.answers_claimed (by simpa using h) hs
    have hexec : exec .resetNode s = .next ((s.claimed r).reply (r.entry s.req.nextId) .badArgs) := by
      rw [execResetNode_of_taken ha h, hact, State.conclude_unsignalled hs.2 hr (by simp) hans.1]
    exact ⟨_, hexec, hans, State.sameBut_claimed_reply s r _ _ _⟩
  · have hact : s.frameSent = s.afterSent := by rw [State.frameSent_of_shifter hshift, State.report, hown]
    have hdue : s.afterSent.resetDue = true := State.resetDue_of_sent (s := s.afterSent) he hfn hst rfl hq
    have hexec : exec .txComplete s = .next s.afterSent.requestedReset := by
      change takenOnLine s.line.shifter.isSome State.frameSent s = _
      rw [takenOnLine_of_occurs _ s (by simp [hshift]), hact, State.conclude, if_pos hdue]
    exact ⟨_, hexec, State.wasReset_resetWith _ _ _ s⟩

end Sys2Proof.Machine

/-! ## The end of an operation (R57, R58, R59)

What `closeOp` and the operations that call it leave, in the words of the statements: the wind-down HOLDs in order, the
REQUESTs withdrawn, the originating request replied. -/

namespace Sys2Proof.Machine

/-! ### Frames added to a line, none taken away -/

/-- From `s` to `t` frames have been offered, each of them with the property. -/
structure State.Queues (P : TxFrame → Prop) (s t : State) : Prop where
  keeps : ∀ l : List TxFrame, l.Sublist s.line.queue → (∀ g ∈ l, g.isPublish = false) → l.Sublist t.line.queue
  adds : ∀ g ∈ t.line.queue, g ∈ s.line.queue ∨ P g
  shifter : t.line.shifter = s.line.shifter

namespace State.Queues
variable {P Q : TxFrame → Prop} {s t u : State}

theorem of_line (h : t.line = s.line) : State.Queues P s t :=
  ⟨fun _ hl _ => h ▸ hl, fun _ hg => .inl (h ▸ hg), by rw [h]⟩

theorem trans (h : State.Queues P s t) (k : State.Queues P t u) : State.Queues P s u :=
  ⟨fun l hl hk => k.keeps l (h.keeps l hl hk) hk,
    fun g hg => (k.adds g hg).elim (h.adds g) .inr, k.shifter.trans h.shifter⟩

theorem mono (h : State.Queues P s t) (hPQ : ∀ g, P g → Q g) : State.Queues Q s t :=
  ⟨h.keeps, fun g hg => (h.adds g hg).imp_right (hPQ g), h.shifter⟩

theorem offerAll {fs : List TxFrame} (hP : ∀ f ∈ fs, P f) (s : State) : State.Queues P s (s.offerAll fs) :=
  ⟨fun _ hl hk => State.sublist_offerAll hl hk, fun g hg => (State.mem_offerAll_or hg).symm.imp_right (hP g),
    State.offerAll_shifter fs s⟩

theorem offer {f : TxFrame} (hP : P f) (s : State) : State.Queues P s (s.offer f) :=
  offerAll (fs := [f]) (fun g hg => by rw [List.mem_singleton.mp hg]; exact hP) s

theorem finish (hP : ∀ n payload, P { kind := .publish, payload := payload, owner := .publication n, withdrawn := false })
    (s : State) : State.Queues P s s.finish :=
  ⟨fun _ hl hk => State.sublist_finish hl hk,
    fun g hg => (State.mem_finish_or hg).symm.imp_right fun h => by rw [h]; exact hP _ _, State.finish_shifter s⟩

theorem mem (h : State.Queues P s t) {g : TxFrame} (hg : g ∈ s.line.queue) (hk : g.isPublish = false) : g ∈ t.line.queue :=
  List.singleton_sublist.mp (h.keeps [g] (List.singleton_sublist.mpr hg)
    fun x hx => by rw [List.mem_singleton.mp hx]; exact hk)

theorem queued (h : State.Queues P s t) {fs : List TxFrame} (hq : s.queued fs) (hk : ∀ f ∈ fs, f.isPublish = false) :
    t.queued fs := fun f hf => h.mem (hq f hf) (hk f hf)

theorem replied (h : State.Queues P s t) {e : ReqEntry} {res : Result} {why : Reason} (hr : s.replied e res why)
    (ht : t.req.table ⊆ s.req.table) : t.replied e res why :=
  ⟨fun x hx => hr.1 x (ht hx), h.queued hr.2 fun _ hf => replyFrames_not_publish hf⟩

end State.Queues

theorem replyFrames_owner {owner : Producer} {who tag fn : Nat} {res : Result} {why : Reason} {content : List Byte}
    {f : TxFrame} (h : f ∈ replyFrames owner who tag fn res why content) : f.owner = owner := by
  obtain ⟨x, -, rfl⟩ := List.mem_map.mp h
  rfl

/-- The frames of everything but sub-requests. -/
def TxFrame.notSubRequest (f : TxFrame) : Prop := f.owner.isSubRequest = false

theorem State.Queues.reply (e : ReqEntry) (res : Result) (why : Reason) (content : List Byte) (s : State) :
    State.Queues TxFrame.notSubRequest s (s.reply e res why content) :=
  (State.Queues.offerAll (fun _ hf => by rw [TxFrame.notSubRequest, replyFrames_owner hf]; rfl) s).trans
    (State.Queues.of_line rfl)

theorem State.Queues.replyTo (id : Nat) (res : Result) (why : Reason) (content : List Byte) (s : State) :
    State.Queues TxFrame.notSubRequest s (s.replyTo id res why content) := by
  unfold State.replyTo
  split
  · exact State.Queues.reply _ _ _ _ s
  · exact State.Queues.of_line rfl

theorem State.Queues.finished (s : State) : State.Queues TxFrame.notSubRequest s s.finish :=
  State.Queues.finish (fun _ _ => rfl) s

/-! ### The wind-down HOLDs (R57) -/

/-- The wind-down HOLD of an entry, with a tag. -/
def SubEntry.windDownFrame (su : Setup) (tag : Nat) (x : SubEntry) : TxFrame :=
  requestFrame .windDown (holdFor x.what.target).fn tag ((holdFor x.what.target).args su)

/-- The wind-down HOLDs of a list, with the tags that follow one another. -/
def holdFrames (su : Setup) : Nat → List SubEntry → List TxFrame
  | _, [] => []
  | tag, x :: xs => x.windDownFrame su tag :: holdFrames su ((tag + 1) % 256) xs

theorem holdFrames_eq_zipIdx (su : Setup) (tag : Nat) (xs : List SubEntry) (k : Nat) :
    holdFrames su ((tag + k) % 256) xs
      = (xs.zipIdx k).map fun (x, i) => x.windDownFrame su ((tag + i) % 256) := by
  induction xs generalizing k with
  | nil => rfl
  | cons x xs ih =>
    have hnext : ((tag + k) % 256 + 1) % 256 = (tag + (k + 1)) % 256 := by omega
    rw [holdFrames, hnext, ih (k + 1)]
    rfl

theorem State.windDownFrames_eq {s : State} (h : s.req.tagCtr < 256) (subs : List SubEntry) :
    s.windDownFrames subs = holdFrames s.node.setup s.req.tagCtr (subs.filter SubEntry.stillActing) := by
  have h0 := holdFrames_eq_zipIdx s.node.setup s.req.tagCtr (subs.filter SubEntry.stillActing) 0
  rw [Nat.add_zero, Nat.mod_eq_of_lt h] at h0
  exact h0.symm

theorem takeWhile_insert_while {p : TxFrame → Bool} {f : TxFrame} (hf : p f = true) (q : List TxFrame) :
    (q.takeWhile p ++ f :: q.dropWhile p).takeWhile p = q.takeWhile p ++ [f] := by
  have hrest : (q.dropWhile p).takeWhile p = [] := by
    cases h : q.dropWhile p with
    | nil => rfl
    | cons x r =>
      have hx : p x = false := by
        have := List.head?_dropWhile_not p q
        rw [h] at this
        simpa using this
      simp [hx]
  rw [List.takeWhile_append_of_pos fun x hx => List.mem_takeWhile_imp hx, List.takeWhile_cons_of_pos hf, hrest]

/-- The wind-down HOLDs of a list of entries queued. -/
def State.queueHolds (xs : List SubEntry) (s : State) : State := xs.foldl (fun s e => s.queueWindDown e.what.target) s

theorem State.queueHolds_cons (x : SubEntry) (xs : List SubEntry) (s : State) :
    s.queueHolds (x :: xs) = (s.queueWindDown x.what.target).queueHolds xs := rfl

/-- With room the HOLDs enter in order, behind what stands in their class and before it. -/
theorem State.queueHolds_takeWhile {xs : List SubEntry} {s : State} (h : s.hasRoom xs.length) :
    (s.queueHolds xs).line.queue.takeWhile (fun g => g.kind.rank ≤ FrameKind.request.rank)
      = s.line.queue.takeWhile (fun g => g.kind.rank ≤ FrameKind.request.rank)
        ++ holdFrames s.node.setup s.req.tagCtr xs := by
  induction xs generalizing s with
  | nil => simp [State.queueHolds, holdFrames]
  | cons x xs ih =>
    obtain ⟨hs, hl⟩ := h
    rw [List.length_cons] at hl
    have hoffer := State.offer_of_room (f := x.windDownFrame s.node.setup s.req.tagCtr) hs (by omega) rfl
    have hqueue : (s.queueWindDown x.what.target).line.queue
        = enterAtTail (x.windDownFrame s.node.setup s.req.tagCtr) s.line.queue :=
      congrArg (fun u : State => u.line.queue) hoffer
    have hreq : (s.queueWindDown x.what.target).req.tagCtr = (s.req.tagCtr + 1) % 256 := by
      change ((s.offer (x.windDownFrame s.node.setup s.req.tagCtr)).req.tagCtr + 1) % 256 = _
      rw [hoffer]
      rfl
    have hnode : (s.queueWindDown x.what.target).node = s.node := State.offer_node _ s
    have hroom : (s.queueWindDown x.what.target).hasRoom xs.length := by
      refine ⟨by rw [State.silenced, hnode]; exact hs, ?_⟩
      rw [hqueue, enters_tail.length]
      omega
    rw [State.queueHolds_cons, ih hroom, hqueue, hnode, hreq, enterAtTail]
    rw [show (x.windDownFrame s.node.setup s.req.tagCtr).kind = .request from rfl,
      takeWhile_insert_while (p := fun g => decide (g.kind.rank ≤ FrameKind.request.rank)) rfl, holdFrames,
      List.append_assoc]
    rfl

theorem State.queueHolds_queues (xs : List SubEntry) (s : State) :
    State.Queues TxFrame.notSubRequest s (s.queueHolds xs) := by
  induction xs generalizing s with
  | nil => exact State.Queues.of_line rfl
  | cons x xs ih =>
    have hx : State.Queues TxFrame.notSubRequest s (s.offer (x.windDownFrame s.node.setup s.req.tagCtr)) :=
      State.Queues.offer (show (x.windDownFrame s.node.setup s.req.tagCtr).owner.isSubRequest = false from rfl) s
    exact (hx.trans (State.Queues.of_line (t := s.queueWindDown x.what.target) rfl)).trans (ih _)

/-- A wind-down HOLD queued touches the Request Unit's tag counter and the queue. -/
theorem State.queueHolds_via (xs : List SubEntry) (s : State) : s.via [.line, .req] (s.queueHolds xs) :=
  State.via_foldl _ (fun _ _ h => State.via_queueWindDown h (by decide) (by decide) _) xs (State.via_refl _ s)

theorem State.queueHolds_table (xs : List SubEntry) (s : State) : (s.queueHolds xs).req.table = s.req.table := by
  induction xs generalizing s with
  | nil => rfl
  | cons x xs ih => rw [State.queueHolds_cons, ih]; exact State.queueRequest_table _ _ s

theorem State.queueHolds_length (xs : List SubEntry) (s : State) :
    (s.queueHolds xs).line.queue.length ≤ s.line.queue.length + xs.length := by
  induction xs generalizing s with
  | nil => exact le_rfl
  | cons x xs ih =>
    have h1 := ih (s.queueWindDown x.what.target)
    have h2 : (s.queueWindDown x.what.target).line.queue.length ≤ s.line.queue.length + 1 := State.length_offer _ s
    rw [State.queueHolds_cons, List.length_cons]
    omega

/-! ### An operation wound down (R57, R61) -/

/-- The entries that an end winds down. -/
def OpRecord.acting (o : OpRecord) (windDown : Bool) : List SubEntry :=
  if windDown then o.subs.filter SubEntry.stillActing else []

theorem OpRecord.length_acting_le (o : OpRecord) (windDown : Bool) : (o.acting windDown).length ≤ o.subs.length := by
  unfold OpRecord.acting
  split
  · exact List.length_filter_le _ _
  · exact Nat.zero_le _

/-- The line of an end before the originating reply. -/
def State.wound (o : OpRecord) (windDown : Bool) (s : State) : State :=
  (s.queueHolds (o.acting windDown)).withdraw Producer.isSubRequest

theorem State.wound_table (o : OpRecord) (windDown : Bool) (s : State) : (s.wound o windDown).req.table = s.req.table :=
  State.queueHolds_table _ s

theorem State.wound_via (o : OpRecord) (windDown : Bool) (s : State) : s.via [.line, .req] (s.wound o windDown) :=
  State.via_withdraw (State.queueHolds_via _ s) (by decide) _

theorem State.wound_length (o : OpRecord) (windDown : Bool) (s : State) :
    (s.wound o windDown).line.queue.length ≤ s.line.queue.length + o.subs.length := by
  have h1 := State.length_withdraw Producer.isSubRequest (s.queueHolds (o.acting windDown))
  have h2 := State.queueHolds_length (o.acting windDown) s
  have h3 := o.length_acting_le windDown
  exact le_trans h1 (by omega)

theorem holdFrames_owner {su : Setup} {tag : Nat} {xs : List SubEntry} {f : TxFrame} (h : f ∈ holdFrames su tag xs) :
    f.owner = .windDown ∧ f.isPublish = false := by
  induction xs generalizing tag with
  | nil => cases h
  | cons x xs ih =>
    rcases List.mem_cons.mp h with rfl | h
    · exact ⟨rfl, rfl⟩
    · exact ih h

theorem State.windDownFrames_owner {s : State} {subs : List SubEntry} {f : TxFrame} (h : f ∈ s.windDownFrames subs) :
    f.owner = .windDown ∧ f.isPublish = false := by
  obtain ⟨x, -, rfl⟩ := List.mem_map.mp h
  exact ⟨rfl, rfl⟩

/-- The line of an end is wound down, where the HOLDs have room. -/
theorem State.wound_woundDown {o : OpRecord} {windDown : Bool} {s : State} (h : windDown = true → s.hasRoom o.subs.length) :
    s.woundDown (if windDown then o.subs else []) (s.wound o windDown) := by
  refine ⟨fun htag => ?_, fun f hf hsub => ?_, fun f hf hsub => ?_⟩
  · cases windDown with
    | false => exact List.nil_sublist _
    | true =>
      have hroom : s.hasRoom (o.acting true).length := State.hasRoom.mono (h rfl) (o.length_acting_le true)
      have hframes := State.queueHolds_takeWhile hroom
      rw [if_pos rfl, State.windDownFrames_eq htag]
      have hsub : (holdFrames s.node.setup s.req.tagCtr (o.acting true)).Sublist
          (s.queueHolds (o.acting true)).line.queue :=
        ((List.sublist_append_right _ _).trans (by rw [hframes])).trans (List.takeWhile_sublist _)
      have hkept := hsub.filter fun g => !g.owner.isSubRequest
      rwa [List.filter_eq_self.mpr fun g hg => by rw [(holdFrames_owner hg).1]; rfl] at hkept
  · have hnot := (List.mem_filter.mp hf).2
    simp [hsub] at hnot
  · have hshift : (s.queueHolds (o.acting windDown)).line.shifter = some f :=
      ((State.queueHolds_queues _ s).shifter).trans hf
    change (s.queueHolds (o.acting windDown)).line.shifter.map _ = _
    rw [hshift]
    exact congrArg some (if_pos hsub)

/-- What is queued after an operation is wound down, but for REQUESTs of other sub-requests. -/
theorem State.woundDownBut.queues {fresh : List TxFrame} {subs : List SubEntry} {s t u : State}
    (h : s.woundDownBut fresh subs t)
    (hq : State.Queues (fun g => g.owner.isSubRequest = true → g ∈ fresh) t u) : s.woundDownBut fresh subs u := by
  obtain ⟨hholds, hnone, hshift⟩ := h
  refine ⟨fun htag => hq.keeps _ (hholds htag) fun g hg => (State.windDownFrames_owner hg).2, fun f hf hsub => ?_,
    fun f hf hsub => hq.shifter.trans (hshift f hf hsub)⟩
  rcases hq.adds f hf with hf | hf
  · exact hnone f hf hsub
  · exact hf hsub

theorem State.woundDown.queues {subs : List SubEntry} {s t u : State} (h : s.woundDown subs t)
    (hq : State.Queues TxFrame.notSubRequest t u) : s.woundDown subs u :=
  State.woundDownBut.queues h (hq.mono fun g hg hsub => absurd hsub (by rw [show g.owner.isSubRequest = false from hg]; decide))

/-- A wind-down reads the tag counter, the setup and the shifter of the state it begins in. -/
theorem State.woundDownBut_of_eq {fresh : List TxFrame} {subs : List SubEntry} {s u t : State}
    (h : u.woundDownBut fresh subs t) (htag : u.req.tagCtr = s.req.tagCtr) (hset : u.node.setup = s.node.setup)
    (hshift : u.line.shifter = s.line.shifter) : s.woundDownBut fresh subs t := by
  unfold State.woundDownBut State.windDownFrames at *
  rw [htag, hset, hshift] at h
  exact h

/-! ### The whole end -/

theorem State.closeOp_eq (o : OpRecord) (windDown : Bool) (answer : Option (Result × Reason)) (s : State) :
    s.closeOp o windDown answer = (((match answer with
      | some (res, why) => (s.wound o windDown).replyTo o.entry res why
      | none => s.wound o windDown).withOp none).signalOp) := rfl

@[simp] theorem State.signalOp_op (s : State) : s.signalOp.op = s.op := by simp [State.signalOp]
@[simp] theorem State.signalOp_line (s : State) : s.signalOp.line = s.line := by simp [State.signalOp]
@[simp] theorem State.signalOp_req (s : State) : s.signalOp.req = s.req := by simp [State.signalOp]
@[simp] theorem State.signalOp_drv (s : State) : s.signalOp.drv = s.drv := by simp [State.signalOp]
@[simp] theorem State.signalOp_node (s : State) : s.signalOp.node = s.node := by simp [State.signalOp]

theorem State.closeOp_op (o : OpRecord) (windDown : Bool) (answer : Option (Result × Reason)) (s : State) :
    (s.closeOp o windDown answer).op = none := by
  rw [State.closeOp_eq, State.signalOp_op, State.withOp_op]

/-- A close is its wound-down line, with the originating reply behind it. -/
theorem State.closeOp_queues (o : OpRecord) (windDown : Bool) (answer : Option (Result × Reason)) (s : State) :
    State.Queues TxFrame.notSubRequest (s.wound o windDown) (s.closeOp o windDown answer) := by
  rw [State.closeOp_eq]
  refine State.Queues.trans (t := match answer with
    | some (res, why) => (s.wound o windDown).replyTo o.entry res why
    | none => s.wound o windDown) ?_ (State.Queues.of_line (State.signalOp_line _))
  split
  · exact State.Queues.replyTo _ _ _ _ _
  · exact State.Queues.of_line rfl

theorem State.closeOp_woundDown {o : OpRecord} {windDown : Bool} {s : State} (answer : Option (Result × Reason))
    (h : windDown = true → s.hasRoom o.subs.length) :
    s.woundDown (if windDown then o.subs else []) (s.closeOp o windDown answer) :=
  (State.wound_woundDown h).queues (State.closeOp_queues o windDown answer s)

theorem State.closeOp_req {o : OpRecord} {windDown : Bool} {res : Result} {why : Reason} {s : State} {e : ReqEntry}
    (he : s.entryOf o.entry = some e) :
    (s.closeOp o windDown (some (res, why))).line = ((s.wound o windDown).reply e res why).line
      ∧ (s.closeOp o windDown (some (res, why))).req = ((s.wound o windDown).reply e res why).req := by
  have hentry : (s.wound o windDown).entryOf o.entry = some e :=
    (State.entryOf_of_req (s.wound_table o windDown) _).trans he
  rw [State.closeOp_eq]
  simp only [State.replyTo_of_entry hentry, State.signalOp_line, State.signalOp_req, State.withOp_line, State.withOp_req]
  exact ⟨trivial, trivial⟩

theorem State.closeOp_replied {o : OpRecord} {windDown : Bool} {res : Result} {why : Reason} {s : State} {e : ReqEntry}
    (he : s.entryOf o.entry = some e) (h : s.hasRoom (1 + o.subs.length)) :
    (s.closeOp o windDown (some (res, why))).replied e res why := by
  obtain ⟨hline, hreq⟩ := State.closeOp_req (windDown := windDown) (res := res) (why := why) he
  have hroom : (s.wound o windDown).hasRoom 1 := by
    refine ⟨?_, ?_⟩
    · rw [State.silenced, (s.wound_via o windDown).same .node (by decide)]; exact h.1
    · have h1 := s.wound_length o windDown
      have h2 := h.2
      omega
  have hrep := State.reply_replied e res why _ hroom
  unfold State.replied State.queued at *
  rw [hline, hreq]
  exact hrep

/-- What an end without a change of the drive leaves of the table: all but the originating entry. -/
theorem State.closeOp_table {o : OpRecord} {windDown : Bool} {res : Result} {why : Reason} {s : State} {e : ReqEntry}
    (he : s.entryOf o.entry = some e) :
    (s.closeOp o windDown (some (res, why))).req.table = s.req.table.filter fun x => x.id != e.id := by
  rw [(State.closeOp_req he).2, State.reply_table, State.wound_table]

theorem State.closeOp_via (o : OpRecord) (windDown : Bool) (answer : Option (Result × Reason)) (s : State) :
    s.via [.line, .req, .pub, .op] (s.closeOp o windDown answer) := by simp

/-! ### The ends that hold the drive -/

theorem State.giveHold_wentToHold (s : State) : s.drv.wentToHold s.node.setup.brakeSet s.giveHold.drv :=
  s.holdDrive_wentToHold

/-- R57, R58: an operation ends with its drive held, its reply and its wind-down. -/
theorem State.holdClose_opEnded {o : OpRecord} {e : ReqEntry} {s : State} {windDown : Bool} {res : Result} {why : Reason}
    (he : s.entryOf o.entry = some e) (h : s.hasRoom (1 + o.subs.length)) (hw : windDown = true ∨ res = .aborted) :
    s.opEnded e o.subs res why (s.giveHold.closeOp o windDown (some (res, why))) := by
  have hroom : s.giveHold.hasRoom (1 + o.subs.length) :=
    State.hasRoom_of_eq h (by rw [State.giveHold_node]) (by rw [State.giveHold_line])
  have hentry : s.giveHold.entryOf o.entry = some e := (State.entryOf_of_req (by rw [State.giveHold_req]) _).trans he
  refine ⟨State.closeOp_op _ _ _ _, ?_, State.closeOp_replied hentry hroom, ?_⟩
  · rw [(State.closeOp_via o windDown (some (res, why)) s.giveHold).same .drv (by decide)]
    exact s.giveHold_wentToHold
  · have hwound := State.closeOp_woundDown (windDown := windDown) (some (res, why))
      fun _ => State.hasRoom.mono hroom (Nat.le_add_left _ 1)
    have hwound' := State.woundDownBut_of_eq (s := s) hwound (by rw [State.giveHold_req]) (by rw [State.giveHold_node])
      (by rw [State.giveHold_line])
    obtain ⟨hholds, hrest⟩ := hwound'
    refine ⟨fun htag => ?_, hrest⟩
    split
    · exact List.nil_sublist _
    · next hne =>
      obtain rfl := hw.resolve_right hne
      exact hholds htag

theorem State.endOp_of_op {s : State} {o : OpRecord} (h : s.op = some o) (res : Result) (why : Reason) :
    s.endOp res why = s.giveHold.closeOp o true (some (res, why)) := by
  unfold State.endOp
  rw [h]

/-- R57: an operation that runs for an entry ends. -/
theorem State.endOp_opEnded {s : State} {o : OpRecord} {e : ReqEntry} (h : s.runsFor o e) (res : Result) (why : Reason) :
    s.opEnded e o.subs res why (s.endOp res why) := by
  obtain ⟨hop, hentry, hroom⟩ := h
  rw [State.endOp_of_op hop]
  exact State.holdClose_opEnded hentry hroom (.inl rfl)

/-- An end is told of the drive, the setup, the tag counter and the shifter of the state it begins in. -/
theorem State.opEnded_of_eq {e : ReqEntry} {subs : List SubEntry} {res : Result} {why : Reason} {s u t : State}
    (h : u.opEnded e subs res why t) (hdrv : u.drv.state = s.drv.state) (htimer : u.drv.timer = s.drv.timer)
    (htag : u.req.tagCtr = s.req.tagCtr) (hset : u.node.setup = s.node.setup)
    (hshift : u.line.shifter = s.line.shifter) : s.opEnded e subs res why t := by
  obtain ⟨hop, hhold, hreply, hwound⟩ := h
  refine ⟨hop, ?_, hreply, State.woundDownBut_of_eq hwound htag hset hshift⟩
  unfold Drive.wentToHold at *
  rw [hdrv, htimer, hset] at hhold
  exact hhold

theorem State.opEnded_finish {e : ReqEntry} {subs : List SubEntry} {res : Result} {why : Reason} {s t : State}
    (h : s.opEnded e subs res why t) : s.opEnded e subs res why t.finish := by
  obtain ⟨hop, hhold, hreply, hwound⟩ := h
  exact ⟨by rw [State.finish_op]; exact hop, by rw [State.finish_drv]; exact hhold, State.replied_finish hreply,
    State.woundDown.queues hwound (State.Queues.finished t)⟩

end Sys2Proof.Machine

/-! ## The request table emptied, and the changes of node state -/

namespace Sys2Proof.Machine

/-! ### Replies of one class queued in order -/

theorem State.offerAll_line_congr {s t : State} (fs : List TxFrame) (hline : t.line = s.line) (hnode : t.node = s.node) :
    (t.offerAll fs).line = (s.offerAll fs).line := by
  induction fs generalizing s t with
  | nil => exact hline
  | cons f fs ih =>
    exact ih (State.offer_line_congr f hline hnode) (by simp [hnode])

/-- With room, frames of one class enter in order, behind what stands in their class and before it. -/
theorem State.offerAll_takeWhile {k : FrameKind} {fs : List TxFrame} {s : State} (h : s.hasRoom fs.length)
    (hk : ∀ f ∈ fs, f.kind = k ∧ f.isPublish = false) :
    (s.offerAll fs).line.queue.takeWhile (fun g => g.kind.rank ≤ k.rank)
      = s.line.queue.takeWhile (fun g => g.kind.rank ≤ k.rank) ++ fs := by
  induction fs generalizing s with
  | nil => simp
  | cons f fs ih =>
    obtain ⟨hs, hl⟩ := h
    rw [List.length_cons] at hl
    obtain ⟨hkind, hpub⟩ := hk f List.mem_cons_self
    have hoffer := State.offer_of_room hs (by omega) hpub
    have hroom : (s.offer f).hasRoom fs.length := by
      refine ⟨by rw [State.offer_silenced]; exact hs, ?_⟩
      have := State.length_offer f s
      omega
    have hqueue : (s.offer f).line.queue = enterAtTail f s.line.queue := congrArg (fun u : State => u.line.queue) hoffer
    rw [State.offerAll_cons, ih hroom fun g hg => hk g (List.mem_cons_of_mem f hg), hqueue, enterAtTail, hkind,
      takeWhile_insert_while (p := fun g => decide (g.kind.rank ≤ k.rank)) (by simp [hkind]), List.append_assoc]
    rfl

/-! ### The table emptied (R174) -/

/-- Entries replied one after the other. -/
def State.replyAll (res : Result) (l : List ReqEntry) (s : State) : State := l.foldl (fun s e => s.reply e res) s

/-- Their replies. -/
def repliesOf (res : Result) (l : List ReqEntry) : List TxFrame :=
  l.flatMap fun e => replyFrames .requestUnit e.requester e.tag e.fn res .noReason []

theorem State.replyAll_table (res : Result) (l : List ReqEntry) (s : State) :
    (s.replyAll res l).req.table = s.req.table.filter fun x => l.all fun e => x.id != e.id := by
  induction l generalizing s with
  | nil => exact (List.filter_eq_self.mpr fun _ _ => rfl).symm
  | cons e l ih =>
    refine (ih (s.reply e res)).trans ?_
    rw [State.reply_table, List.filter_filter]
    exact List.filter_congr fun x _ => by rw [List.all_cons, Bool.and_comm]

theorem State.replyAll_line (res : Result) (l : List ReqEntry) (s : State) :
    (s.replyAll res l).line = (s.offerAll (repliesOf res l)).line := by
  induction l generalizing s with
  | nil => rfl
  | cons e l ih =>
    have hfirst := State.offerAll_line_congr (t := s.reply e res)
      (s := s.offerAll (replyFrames .requestUnit e.requester e.tag e.fn res .noReason [])) (repliesOf res l) rfl rfl
    refine (ih (s.reply e res)).trans (hfirst.trans ?_)
    change _ = (s.offerAll (replyFrames .requestUnit e.requester e.tag e.fn res .noReason [] ++ repliesOf res l)).line
    rw [State.offerAll, State.offerAll, State.offerAll, List.foldl_append]

theorem State.replyAll_queues (res : Result) (l : List ReqEntry) (s : State) :
    State.Queues TxFrame.notSubRequest s (s.replyAll res l) := by
  induction l generalizing s with
  | nil => exact State.Queues.of_line rfl
  | cons e l ih => exact (State.Queues.reply e res _ _ s).trans (ih _)

theorem State.replyAll_via (res : Result) (l : List ReqEntry) (s : State) : s.via [.line, .req] (s.replyAll res l) :=
  State.via_foldl _ (fun _ _ h => State.via_reply h (by decide) (by decide) _ _ _ _) l (State.via_refl _ s)

theorem repliesOf_kind {res : Result} {l : List ReqEntry} {f : TxFrame} (h : f ∈ repliesOf res l) :
    f.kind = .reply ∧ f.isPublish = false := by
  obtain ⟨e, -, hf⟩ := List.mem_flatMap.mp h
  refine ⟨?_, replyFrames_not_publish hf⟩
  obtain ⟨x, -, rfl⟩ := List.mem_map.mp hf
  rfl

theorem length_repliesOf (res : Result) (l : List ReqEntry) : (repliesOf res l).length = l.length := by
  induction l with
  | nil => rfl
  | cons e l ih => rw [repliesOf, List.flatMap_cons, List.length_append, length_replyFrames_nil, List.length_cons,
      ← repliesOf, ih, Nat.add_comm]

/-- With room the replies stand in the queue in the order of the entries. -/
theorem State.replyAll_sublist {res : Result} {l : List ReqEntry} {s : State} (h : s.hasRoom l.length) :
    (repliesOf res l).Sublist (s.replyAll res l).line.queue := by
  have hframes := State.offerAll_takeWhile (k := .reply) (fs := repliesOf res l) (s := s)
    (by rw [length_repliesOf]; exact h) fun f hf => repliesOf_kind hf
  rw [State.replyAll_line]
  exact ((List.sublist_append_right _ _).trans (by rw [hframes])).trans (List.takeWhile_sublist _)

theorem filter_emptied {l : List ReqEntry} (h : (l.map ReqEntry.id).Nodup) :
    (l.filter fun x => (l.filter ReqEntry.emptied).all fun e => x.id != e.id) = l.filter fun e => !e.emptied := by
  refine List.filter_congr fun x hx => ?_
  cases hem : x.emptied with
  | true =>
    refine List.all_eq_false.mpr ⟨x, List.mem_filter.mpr ⟨hx, hem⟩, by simp⟩
  | false =>
    refine List.all_eq_true.mpr fun e he => ?_
    obtain ⟨hel, hee⟩ := List.mem_filter.mp he
    refine bne_iff_ne.mpr fun hid => ?_
    rw [List.inj_on_of_nodup_map h hx hel hid, hee] at hem
    cases hem

/-! ### What STOPPED entry and HALT share (R58, R85, R174) -/

theorem State.stopOp_of_op {s : State} {o : OpRecord} (h : s.op = some o) : s.stopOp = s.closeOp o false none := by
  unfold State.stopOp
  rw [h]

theorem State.stopOp_of_none {s : State} (h : s.op = none) : s.stopOp = s := by
  unfold State.stopOp
  rw [h]

theorem State.stopOp_via (s : State) : s.via [.line, .req, .pub, .op] s.stopOp := by simp

theorem State.stopOp_op (s : State) : s.stopOp.op = none := by
  cases h : s.op with
  | none => rw [State.stopOp_of_none h, h]
  | some o => rw [State.stopOp_of_op h]; exact State.closeOp_op _ _ _ _

theorem State.stopOp_table (s : State) : s.stopOp.req.table = s.req.table := by
  cases h : s.op with
  | none => rw [State.stopOp_of_none h]
  | some o => rw [State.stopOp_of_op h, State.closeOp_eq, State.signalOp_req]; exact State.wound_table o false s

theorem State.stopOp_length (s : State) : s.stopOp.line.queue.length ≤ s.line.queue.length := by
  cases h : s.op with
  | none => rw [State.stopOp_of_none h]
  | some o =>
    rw [State.stopOp_of_op h, State.closeOp_eq, State.signalOp_line]
    exact State.length_withdraw _ s

theorem State.stopOp_woundDown {s : State} (h : s.op ≠ none) : s.woundDown [] s.stopOp := by
  obtain ⟨o, ho⟩ := Option.ne_none_iff_exists'.mp h
  rw [State.stopOp_of_op ho]
  exact State.closeOp_woundDown (windDown := false) none (by simp)

/-- The state in which the emptying of the table begins. -/
def State.stopped (s : State) : State := (s.stopOp).holdDrive.holdTool

theorem State.stopped_line (s : State) : s.stopped.line = s.stopOp.line := by simp [State.stopped]
theorem State.stopped_req (s : State) : s.stopped.req = s.stopOp.req := by simp [State.stopped]
theorem State.stopped_op (s : State) : s.stopped.op = none := by simp [State.stopped, State.stopOp_op]
theorem State.stopped_node (s : State) : s.stopped.node = s.node := by
  simp [State.stopped, show s.stopOp.node = s.node from s.stopOp_via.same .node (by decide)]

theorem State.abortAll_eq (s : State) : s.abortAll = s.stopped.replyAll .aborted (s.req.table.filter ReqEntry.emptied) := by
  change s.stopped.replyAll .aborted (s.stopped.req.table.filter ReqEntry.emptied) = _
  rw [State.stopped_req, State.stopOp_table]

theorem State.abortAll_via (s : State) : s.via Part.ending s.abortAll := by
  simp (maxDischargeDepth := 10) [Part.ending, Part.publication]

theorem State.abortAll_drv (s : State) : s.abortAll.drv = s.stopped.drv := by
  rw [State.abortAll_eq]
  exact (State.replyAll_via _ _ _).same .drv (by decide)

theorem State.stopped_drv (s : State) : s.drv.wentToHold s.node.setup.brakeSet s.stopped.drv ∧ s.stopped.drv.source = none
    ∧ s.stopped.drv.tool = .held := by
  have hdrv : s.stopOp.drv = s.drv := s.stopOp_via.same .drv (by decide)
  have hnode : s.stopOp.node = s.node := s.stopOp_via.same .node (by decide)
  have hhold := s.stopOp.holdDrive_wentToHold
  have hsource := s.stopOp.holdDrive_source
  rw [hdrv, hnode] at hhold
  unfold State.stopped State.holdTool
  rw [State.setDrv_drv]
  exact ⟨hhold, hsource, rfl⟩

theorem State.abortAll_tableEmptied {s : State} (h : (s.req.table.map ReqEntry.id).Nodup) : s.tableEmptied s.abortAll := by
  rw [State.abortAll_eq]
  have hvia := State.replyAll_via .aborted (s.req.table.filter ReqEntry.emptied) s.stopped
  refine ⟨?_, (hvia.same .op (by decide)).trans s.stopped_op, fun hroom => ?_, fun hop => ?_⟩
  · rw [State.replyAll_table, State.stopped_req, State.stopOp_table]
    exact filter_emptied h
  · refine State.replyAll_sublist ⟨?_, ?_⟩
    · rw [State.silenced, State.stopped_node]; exact hroom.1
    · rw [State.stopped_line]
      exact le_trans (Nat.add_le_add_right s.stopOp_length _) hroom.2
  · exact (State.stopOp_woundDown hop).queues
      ((State.Queues.of_line s.stopped_line).trans (State.replyAll_queues _ _ _))

/-- What else an event does to a state whose table has been emptied. -/
theorem State.tableEmptied.queues {s t u : State} (h : s.tableEmptied t) (hreq : u.req.table = t.req.table) (hop : u.op = t.op)
    (hq : State.Queues TxFrame.notSubRequest t u) : s.tableEmptied u := by
  obtain ⟨htable, hnone, hreplies, hwound⟩ := h
  exact ⟨hreq.trans htable, hop.trans hnone,
    fun hroom => hq.keeps _ (hreplies hroom) fun g hg => (repliesOf_kind (l := s.req.table.filter ReqEntry.emptied) hg).2,
    fun hne => State.woundDown.queues (hwound hne) hq⟩

/-! ### A change of node state (R203) -/

/-- The drive moves, or holds, as it did: all of its record but the tool, the watches and the withheld flag. -/
structure Drive.SameMotion (d e : Drive) : Prop where
  state : e.state = d.state
  mode : e.mode = d.mode
  pending : e.pending = d.pending
  timer : e.timer = d.timer
  claim : e.claim = d.claim
  source : e.source = d.source
  supply : e.supply = d.supply

theorem Drive.SameMotion.refl (d : Drive) : d.SameMotion d := ⟨rfl, rfl, rfl, rfl, rfl, rfl, rfl⟩

theorem Drive.SameMotion.trans {d e f : Drive} (h : d.SameMotion e) (k : e.SameMotion f) : d.SameMotion f :=
  ⟨k.state.trans h.state, k.mode.trans h.mode, k.pending.trans h.pending, k.timer.trans h.timer, k.claim.trans h.claim,
    k.source.trans h.source, k.supply.trans h.supply⟩

theorem Drive.wentToHold.sameMotion {d e f : Drive} {n : Nat} (h : d.wentToHold n e) (hm : e.SameMotion f) :
    d.wentToHold n f := by
  obtain ⟨hmode, hpending, hclaim, hstate, htimer⟩ := h
  exact ⟨hm.mode.trans hmode, hm.pending.trans hpending, hm.claim.trans hclaim, hm.state.trans hstate,
    hm.timer.trans htimer⟩

theorem State.slackOnState_motion (old new : NodeState) (s : State) :
    s.drv.SameMotion (s.slackOnState old new).drv ∧ (s.slackOnState old new).drv.tool = s.drv.tool := by
  unfold State.slackOnState
  split
  · rw [State.setDrv_drv]; exact ⟨⟨rfl, rfl, rfl, rfl, rfl, rfl, rfl⟩, rfl⟩
  split
  · rw [State.setDrv_drv]; exact ⟨⟨rfl, rfl, rfl, rfl, rfl, rfl, rfl⟩, rfl⟩
  · exact ⟨.refl _, rfl⟩

theorem State.judgeWithheld_motion (s : State) :
    s.drv.SameMotion s.judgeWithheld.drv ∧ s.judgeWithheld.drv.tool = s.drv.tool := by
  rw [State.judgeWithheld, State.setDrv_drv]
  exact ⟨⟨rfl, rfl, rfl, rfl, rfl, rfl, rfl⟩, rfl⟩

theorem State.periodOnState_drv (old new : NodeState) (s : State) : (s.periodOnState old new).drv = s.drv := by
  unfold State.periodOnState
  split <;> rfl

theorem State.setNodeState_motion (new : NodeState) (s : State) : s.drv.SameMotion (s.setNodeState new).drv := by
  unfold State.setNodeState
  dsimp only
  have hslack := (State.slackOnState_motion s.node.state new ((s.withNode { s.node with state := new }).signal)).1
  rw [State.signal_drv, State.withNode_drv] at hslack
  refine hslack.trans ?_
  refine Drive.SameMotion.trans ?_ (State.judgeWithheld_motion _).1
  rw [State.periodOnState_drv]
  unfold State.toolOnState
  split
  · exact .refl _
  · rw [State.holdTool, State.setDrv_drv]; exact ⟨rfl, rfl, rfl, rfl, rfl, rfl, rfl⟩

/-- R95: outside RUN the tool is held. -/
theorem State.setNodeState_tool {new : NodeState} (h : new ≠ .run) (s : State) : (s.setNodeState new).drv.tool = .held := by
  unfold State.setNodeState
  dsimp only
  rw [(State.judgeWithheld_motion _).2, State.periodOnState_drv, State.toolOnState, if_neg h, State.holdTool,
    State.setDrv_drv]
  rfl

@[simp] theorem State.setNodeState_req (new : NodeState) (s : State) : (s.setNodeState new).req = s.req :=
  (s.setNodeState_via new).same .req (by decide)

@[simp] theorem State.setNodeState_line (new : NodeState) (s : State) : (s.setNodeState new).line = s.line :=
  (s.setNodeState_via new).same .line (by decide)

@[simp] theorem State.setNodeState_op (new : NodeState) (s : State) : (s.setNodeState new).op = s.op :=
  (s.setNodeState_via new).same .op (by decide)

@[simp] theorem State.setNodeState_sens (new : NodeState) (s : State) : (s.setNodeState new).sens = s.sens :=
  (s.setNodeState_via new).same .sens (by decide)

/-! ### The stop line (R203) -/

theorem State.stopAsserted_of_active {s : State} (h : s.node.state = .ready ∨ s.node.state = .run) :
    s.stopAsserted = s.abortAll.setNodeState .stopped := by
  unfold State.stopAsserted
  rcases h with h | h <;> rw [h]

theorem State.stopAsserted_of_parked {s : State} (h : s.node.state = .parked) :
    s.stopAsserted = (s.abortAll.unpark).setNodeState .stopped := by
  unfold State.stopAsserted
  rw [h]

theorem State.stopAsserted_of_other {s : State} (h1 : s.node.state ≠ .ready) (h2 : s.node.state ≠ .run)
    (h3 : s.node.state ≠ .parked) : s.stopAsserted = s := by
  unfold State.stopAsserted
  split <;> simp_all

/-- STOPPED entry from a state in which the table has been emptied and the drive held. -/
theorem State.stoppedEntry {s u : State} (hdrv : s.drv.wentToHold s.node.setup.brakeSet u.drv) (hsource : u.drv.source = none)
    (htable : s.tableEmptied u) :
    (u.setNodeState .stopped).finish.node.state = .stopped
      ∧ s.drv.wentToHold s.node.setup.brakeSet (u.setNodeState .stopped).finish.drv
      ∧ (u.setNodeState .stopped).finish.drv.source = none ∧ (u.setNodeState .stopped).finish.drv.tool = .held
      ∧ s.tableEmptied (u.setNodeState .stopped).finish := by
  have hmotion := u.setNodeState_motion .stopped
  rw [State.finish_node, State.finish_drv]
  refine ⟨State.setNodeState_state _ _, hdrv.sameMotion hmotion, hmotion.source.trans hsource,
    State.setNodeState_tool (by decide) u, ?_⟩
  exact htable.queues (by rw [State.finish_req, State.setNodeState_req]) (by rw [State.finish_op, State.setNodeState_op])
    ((State.Queues.of_line (State.setNodeState_line _ u)).trans (State.Queues.finished _))

theorem Drive.wentToHold.supplied {d e : Drive} {n : Nat} (h : d.wentToHold n e) (v : Bool) :
    d.wentToHold n { e with supply := v } := h

theorem State.unpark_wentToHold {d : Drive} {n : Nat} {u : State} (h : d.wentToHold n u.drv) :
    d.wentToHold n u.unpark.drv := h.supplied true

theorem State.unpark_node (u : State) : u.unpark.node.park = .notParked ∧ u.unpark.node.heldBc = [] := ⟨rfl, rfl⟩

theorem State.unpark_drv (u : State) : u.unpark.drv = { u.drv with supply := true } := rfl

theorem State.tableEmptied.unparked {s u : State} (h : s.tableEmptied u) : s.tableEmptied u.unpark :=
  h.queues rfl rfl (.of_line rfl)

theorem State.unpark_sens (u : State) : u.unpark.sens = u.sens := rfl

/-- What the assertion of the stop line makes of a READY, RUN or PARKED node. -/
theorem State.stopAsserted_stops {s : State} (hnodup : (s.req.table.map ReqEntry.id).Nodup)
    (hst : s.node.state = .ready ∨ s.node.state = .run ∨ s.node.state = .parked) :
    (s.stopAsserted).finish.sens = s.sens ∧ (s.stopAsserted).finish.node.state = .stopped
      ∧ s.drv.wentToHold s.node.setup.brakeSet (s.stopAsserted).finish.drv ∧ (s.stopAsserted).finish.drv.source = none
      ∧ (s.stopAsserted).finish.drv.tool = .held ∧ s.tableEmptied (s.stopAsserted).finish
      ∧ (s.node.state = .parked → (s.stopAsserted).finish.node.park = .notParked
          ∧ (s.stopAsserted).finish.node.heldBc = [] ∧ (s.stopAsserted).finish.drv.supply = true) := by
  have hempty := State.abortAll_tableEmptied hnodup
  obtain ⟨hhold, hsource, -⟩ := s.stopped_drv
  rw [← State.abortAll_drv] at hhold hsource
  have hsens : s.abortAll.sens = s.sens := s.abortAll_via.same .sens (by decide)
  generalize hv : s.abortAll = v at hempty hhold hsource hsens
  by_cases hp : s.node.state = .parked
  · rw [State.stopAsserted_of_parked hp, hv]
    obtain ⟨hstate, hdrv, hsrc, htool, htable⟩ :=
      State.stoppedEntry (State.unpark_wentToHold hhold) (by rw [State.unpark_drv]; exact hsource) hempty.unparked
    refine ⟨?_, hstate, hdrv, hsrc, htool, htable, fun _ => ?_⟩
    · rw [State.finish_sens, State.setNodeState_sens, State.unpark_sens, hsens]
    · rw [State.finish_node, State.setNodeState_node, State.finish_drv, (State.setNodeState_motion _ _).supply,
        State.unpark_drv]
      exact ⟨v.unpark_node.1, v.unpark_node.2, rfl⟩
  · rw [State.stopAsserted_of_active (by rcases hst with h | h | h; exacts [.inl h, .inr h, absurd h hp]), hv]
    obtain ⟨hstate, hdrv, hsrc, htool, htable⟩ := State.stoppedEntry hhold hsource hempty
    refine ⟨?_, hstate, hdrv, hsrc, htool, htable, fun h => absurd h hp⟩
    rw [State.finish_sens, State.setNodeState_sens, hsens]

theorem exec_stopLineAsserted_of_sensed {s : State} (h : s.sens.stopLine = false) :
    exec .stopLineAsserted s = .next ((s.withSens { s.sens with stopLine := true }).stopAsserted).finish := by
  change taken (!s.sens.stopLine) (fun s => (s.withSens { s.sens with stopLine := true }).stopAsserted) s = _
  exact taken_of_occurs _ s (by simp [h])

/-- A pull that is not yet sensed is due as an assertion. -/
theorem State.pullDue_of_pull {s : State} (hstop : s.sens.stopLine = false) (hpull : s.drivesStopLine = true) :
    .stopLineAsserted ∈ s.tick.pending := by
  have hdue : (s.elapse s.bitUs).pullDue = [.stopLineAsserted] := by
    have hpull' : (s.elapse s.bitUs).node.pull.pulls = true := hpull
    have hstop' : (s.elapse s.bitUs).sens.stopLine = false := hstop
    simp [State.pullDue, dueIf, hpull', hstop']
  change Instr.stopLineAsserted ∈ (s.elapse s.bitUs).due
  simp [State.due, hdue]

/-- Settles O16: STOPPED entry by node state, the node's own pull, and the release. -/
theorem stopLineStopsTheNodeAndReleasesIt : Obligations.StopLineStopsTheNodeAndReleasesIt := by
  unfold Obligations.StopLineStopsTheNodeAndReleasesIt
  intro s hs
  have hnodup : (s.req.table.map ReqEntry.id).Nodup := hs.1.2.1.2.1
  refine ⟨fun hstop => ⟨fun hst => ?_, fun h1 h2 h3 => ?_⟩, fun hpend hstop hpull => ?_, fun hpull => ?_, fun hstop hpull => ?_⟩
  · exact ⟨_, exec_stopLineAsserted_of_sensed hstop,
      State.stopAsserted_stops (s := s.withSens { s.sens with stopLine := true }) hnodup hst⟩
  · rw [exec_stopLineAsserted_of_sensed hstop,
      State.stopAsserted_of_other (s := s.withSens { s.sens with stopLine := true }) h1 h2 h3]
    exact congrArg _ (State.finish_eq_of_settled hs.2 _ rfl)
  · have hstep : step s = .next s.tick := by
      unfold step
      rw [hpend]
    exact ⟨_, hstep, State.pullDue_of_pull hstop hpull⟩
  · have hpull' : s.node.pull.pulls = true := hpull
    change taken (s.sens.stopLine && !s.node.pull.pulls) (fun s => (s.withSens { s.sens with stopLine := false }).stopReleased) s = _
    rw [taken, if_neg (by simp [hpull'])]
  · have hpull' : s.node.pull.pulls = false := hpull
    let u := s.withSens { s.sens with stopLine := false }
    have hexec : exec .stopLineReleased s = .next u.stopReleased.finish := by
      change taken (s.sens.stopLine && !s.node.pull.pulls)
        (fun s => (s.withSens { s.sens with stopLine := false }).stopReleased) s = _
      exact taken_of_occurs _ s (by simp [hpull', hstop])
    have hvia : s.via [.sens, .node, .mode, .drv, .pub, .line] u.stopReleased :=
      State.via_stopReleased (State.via_withSens (State.via_refl _ s) (by decide) _) (by decide) (by decide) (by decide)
        (by decide)
    refine ⟨_, hexec, ?_, ?_, State.sameBut_finish hvia (by decide) (by decide)⟩
    · rw [State.finish_sens, State.stopReleased]
      split
      · exact State.setNodeState_sens _ _
      · rfl
    · rw [State.finish_node, State.stopReleased, apply_ite State.node, apply_ite NodeCtl.state, State.setNodeState_state]
      rfl

end Sys2Proof.Machine

/-! ## Sensors -/

namespace Sys2Proof.Machine

/-! ### The readings that change little (R15, R29, R92) -/

theorem State.setDrv_sameMotion {d : Drive} {s : State} (h : s.drv.SameMotion d) : s.drv.SameMotion (s.setDrv d).drv := by
  rw [State.setDrv_drv]
  exact h.trans ⟨rfl, rfl, rfl, rfl, rfl, rfl, rfl⟩

/-- The stall watch is a record beside the motion. -/
theorem State.judgeStall_motion (s : State) : s.drv.SameMotion s.judgeStall.drv := by
  unfold State.judgeStall
  dsimp only
  split
  · exact .refl _
  split
  · split
    · exact State.setDrv_sameMotion ⟨rfl, rfl, rfl, rfl, rfl, rfl, rfl⟩
    · exact .refl _
  · exact State.setDrv_sameMotion ⟨rfl, rfl, rfl, rfl, rfl, rfl, rfl⟩

theorem State.judgeTool_motion (s : State) : s.drv.SameMotion s.judgeTool.drv := by
  unfold State.judgeTool
  split
  · exact State.setDrv_sameMotion ⟨rfl, rfl, rfl, rfl, rfl, rfl, rfl⟩
  · exact .refl _

theorem State.restAt_locks_eq (v : Int) (s : State) :
    (s.restAt v).locks = if v = 0 ∧ s.role = some .rotary then { s.locks with dir := .rest } else s.locks := by
  rw [State.restAt, apply_ite State.locks, State.withLocks_locks]

/-- Settles O20: a reading that nothing judges is all that its event changes; a speed event moves the direction and the
watches, none of them the motion. -/
theorem homeForceAndSpeedTakeTheirReadings : Obligations.HomeForceAndSpeedTakeTheirReadings := by
  unfold Obligations.HomeForceAndSpeedTakeTheirReadings
  intro s
  refine ⟨fun hs hrole hhome => ?_, fun f hs hrole hf => ?_, fun v hv => ?_⟩
  · change taken (s.role == some .winch && s.sens.home) (fun s => s.withSens { s.sens with home := false }) s = _
    exact taken_unsignalled (by simp [hrole, hhome]) hs rfl
  · change taken (s.role == some .crowd && f != s.sens.force) (fun s => s.withSens { s.sens with force := f }) s = _
    exact taken_unsignalled (by simp [hrole, hf]) hs rfl
  · let u := (s.withSens { s.sens with speed := v }).restAt v
    have hexec : exec (.axisSpeedEvent v) s = .next u.judgeStall.judgeTool.finish := by
      change taken (v != s.sens.speed)
        (fun s => (((s.withSens { s.sens with speed := v }).restAt v).judgeStall).judgeTool) s = _
      exact taken_of_occurs _ s (by simp [hv])
    have hjudged : u.via (.drv :: Part.publication) u.judgeStall.judgeTool := by simp [Part.publication]
    have hrest : (s.withSens { s.sens with speed := v }).via [.locks] u := by simp [u]
    have hmotion := u.judgeStall_motion.trans u.judgeStall.judgeTool_motion
    have hdrv : u.drv = s.drv := hrest.same .drv (by decide)
    refine ⟨_, hexec, ?_, ?_, ?_, ?_, (exec_axisSpeedEvent_via hexec).1⟩
    · rw [State.finish_sens, hjudged.same .sens (by decide), hrest.same .sens (by decide), State.withSens_sens]
    · rw [State.finish_locks, hjudged.same .locks (by decide)]
      exact State.restAt_locks_eq v _
    · rw [State.finish_drv, hmotion.state, hdrv]
    · rw [State.finish_drv, hmotion.mode, hdrv]

/-! ### The slack watch (R104, R105) -/

/-- R205: what raising a kind that pulls does to Node Control. -/
theorem State.raiseStop_node (k : FaultKind) (s : State) :
    (s.raiseStop k).node = { s.node with faults := s.node.faults.put k true, pull := s.node.pull.put k true } := by
  unfold State.raiseStop
  dsimp only
  rw [State.offer_node, State.withNode_node, State.signal_node, State.setFault_node]

theorem State.raiseStop_via (k : FaultKind) (s : State) : s.via [.node, .pub, .line] (s.raiseStop k) := by simp

theorem State.raiseStop_queued {k : FaultKind} {s : State} (h : s.hasRoom 1) (hk : k ≠ .duplicateStation) :
    stopFrame k ∈ (s.raiseStop k).line.queue := by
  have hfault : (s.setFault k).signal.line = s.line := by simp
  refine State.mem_offer _ _ ?_ (by rw [State.withNode_line, hfault]; exact h.2)
  have hs : s.node.faults.duplicateStation = false := h.1
  cases k <;> simp_all [State.silenced, FaultSet.put]

theorem StopPull.pulls_put_slackRope (p : StopPull) : (p.put .slackRope true).pulls = true := by
  simp [StopPull.put, StopPull.pulls]

theorem State.judgeSlack_motion (s : State) : s.drv.SameMotion s.judgeSlack.drv := by
  unfold State.judgeSlack
  dsimp only
  split
  · split
    · exact State.setDrv_sameMotion ⟨rfl, rfl, rfl, rfl, rfl, rfl, rfl⟩
    · exact .refl _
  split
  · exact State.setDrv_sameMotion ⟨rfl, rfl, rfl, rfl, rfl, rfl, rfl⟩
  · exact .refl _

/-- R104: the slack watch after a tension event, with the tension below SLACK_TENSION or not. -/
theorem State.judgeSlack_drv (s : State) : s.judgeSlack.drv =
    if s.sens.tension < s.node.setup.slackTension then
      if s.node.state = .run ∧ s.drv.slack = .clear then
        { s.drv with slack := .timing, slackTimer := Timer.ms s.node.setup.slackTime : Drive }.tidy
      else s.drv
    else if s.drv.slack = .timing then { s.drv with slack := .clear, slackTimer := none : Drive }.tidy else s.drv := by
  unfold State.judgeSlack
  simp only [apply_ite State.drv, State.setDrv_drv]

/-- Settles O18: a tension event moves the watch alone; its expiry raises the kind. -/
theorem slackWatchStartsClearsAndRaises : Obligations.SlackWatchStartsClearsAndRaises := by
  unfold Obligations.SlackWatchStartsClearsAndRaises
  refine ⟨fun n s hrole hn => ?_, fun s hslack htimer => ?_⟩
  · let u := s.withSens { s.sens with tension := n }
    have hexec : exec (.ropeTensionEvent n) s = .next u.judgeSlack.finish := by
      change taken (s.role == some .winch && n != s.sens.tension)
        (fun s => (s.withSens { s.sens with tension := n }).judgeSlack) s = _
      exact taken_of_occurs _ s (by simp [hrole, hn])
    have hjudged : u.via [.drv, .pub] u.judgeSlack := by simp
    have hmotion := u.judgeSlack_motion
    have hdrv : u.judgeSlack.finish.drv = _ := (State.finish_drv _).trans u.judgeSlack_drv
    change u.judgeSlack.finish.drv = if n < s.node.setup.slackTension then
      if s.node.state = .run ∧ s.drv.slack = .clear then _ else s.drv
      else if s.drv.slack = .timing then _ else s.drv at hdrv
    refine ⟨_, hexec, ?_, fun hlow hrun hclear => ?_, fun hlow hnot => ?_, fun hhigh ht => ?_, fun hhigh ht => ?_, ?_, ?_, ?_,
      (exec_ropeTensionEvent_via hexec).1⟩
    · rw [State.finish_sens, hjudged.same .sens (by decide)]
      rfl
    · rw [hdrv, if_pos hlow, if_pos ⟨hrun, hclear⟩]
      exact ⟨rfl, rfl⟩
    · rw [hdrv, if_pos hlow, if_neg (fun h => hnot.elim (absurd h.1) (absurd h.2))]
    · rw [hdrv, if_neg (Nat.not_lt.mpr hhigh), if_pos ht]
      exact ⟨rfl, rfl⟩
    · rw [hdrv, if_neg (Nat.not_lt.mpr hhigh), if_neg ht]
    · rw [State.finish_drv, hmotion.state]; rfl
    · rw [State.finish_drv, hmotion.mode]; rfl
    · rw [State.finish_drv, hmotion.claim]; rfl
  · let u := s.setDrv { s.drv with slack := .raised, slackTimer := none }
    have hexec : exec .slackTimerExpiry s = .next (u.raiseStop .slackRope).finish :=
      taken_of_occurs State.slackRaised s (by simp [hslack, htimer])
    have hraised := u.raiseStop_via .slackRope
    have hdrv : (u.raiseStop .slackRope).finish.drv = { s.drv with slack := .raised, slackTimer := none : Drive }.tidy := by
      rw [State.finish_drv, hraised.same .drv (by decide), State.setDrv_drv]
    have hnode : (u.raiseStop .slackRope).finish.node
        = { s.node with faults := s.node.faults.put .slackRope true, pull := s.node.pull.put .slackRope true } := by
      rw [State.finish_node, State.raiseStop_node, State.setDrv_node]
    refine ⟨_, hexec, by rw [hdrv]; rfl, by rw [hdrv]; rfl, by rw [hnode], by rw [hnode], ?_, fun hroom => ?_,
      by rw [hdrv]; rfl, by rw [hdrv]; rfl, (exec_slackTimerExpiry_via hexec).1, by rw [hnode]⟩
    · rw [State.drivesStopLine, hnode]
      exact StopPull.pulls_put_slackRope _
    · have hroom' : u.hasRoom 1 :=
        State.hasRoom_of_eq hroom (by rw [State.setDrv_node]) (by rw [State.setDrv_line])
      refine State.queued_finish ?_ (by simp)
      intro f hf
      rw [List.mem_singleton.mp hf]
      exact State.raiseStop_queued hroom' (by decide)

/-! ### The crowd modes at a stroke event (R107, R110, R111) -/

theorem State.targetReached_iff {s : State} {down : Bool} {target : Option Int} : s.targetReached down target = true ↔
    ∃ g, target = some g ∧ if down then g ≤ s.sens.stroke else s.sens.stroke ≤ g := by
  cases target <;> cases down <;> simp [State.targetReached]

theorem State.strokeLimitReached_iff {s : State} {down : Bool} : s.strokeLimitReached down = true ↔
    if down then (s.node.setup.strokeMax : Int) ≤ s.sens.stroke else s.sens.stroke ≤ s.node.setup.strokeMin := by
  cases down <;> simp [State.strokeLimitReached]

/-- A mode of a request, judged with room for its reply. -/
structure State.RunsRequest (s : State) (e : ReqEntry) : Prop where
  source : s.drv.source = some (.request e.id)
  entry : s.entryOf e.id = some e
  room : s.hasRoom 1

theorem State.RunsRequest.ends {s : State} {e : ReqEntry} (h : s.RunsRequest e) (res : Result) (why : Reason)
    (reported : Bool := true) : s.modeEnded e res why (s.endMode res why reported).finish :=
  State.modeEnded_finish (State.endMode_modeEnded h.source h.entry h.room res why reported)

/-- R110: the goal is judged before the limit. -/
theorem State.judgeStroke_judged {s : State} {e : ReqEntry} (h : s.RunsRequest e) (down : Bool) (target : Option Int) :
    (s.targetReached down target = true → s.modeEnded e .done .noReason (s.judgeStroke down target).finish)
      ∧ (¬s.targetReached down target = true → s.strokeLimitReached down = true →
          s.modeEnded e .failed .strokeEnd (s.judgeStroke down target).finish)
      ∧ (¬s.targetReached down target = true → ¬s.strokeLimitReached down = true →
          (s.judgeStroke down target).finish.drv = s.drv ∧ (s.judgeStroke down target).finish.req = s.req) := by
  refine ⟨fun hgoal => ?_, fun hgoal hlimit => ?_, fun hgoal hlimit => ?_⟩
  · rw [State.judgeStroke, if_pos hgoal]
    exact h.ends .done .noReason
  · rw [State.judgeStroke, if_neg hgoal, if_pos hlimit]
    exact h.ends .failed .strokeEnd
  · rw [State.judgeStroke, if_neg hgoal, if_neg hlimit]
    exact ⟨State.finish_drv s, State.finish_req s⟩

/-- R107, R110, R111: which crowd modes are judged, and by what. -/
theorem State.checkStroke_of_feed {s : State} {v : Int} {target : Option Int} (ha : s.drv.state = .active)
    (hm : s.drv.mode = .feed v target) : s.checkStroke = s.judgeStroke (decide (0 < v)) target := by
  unfold State.checkStroke
  rw [ha, hm]

theorem State.checkStroke_of_pull {s : State} {v : Nat} {target : Option Int} (ha : s.drv.state = .active)
    (hm : s.drv.mode = .pull v target) : s.checkStroke = s.judgeStroke false target := by
  unfold State.checkStroke
  rw [ha, hm]

theorem State.checkStroke_of_thrust {s : State} {f : Nat} (ha : s.drv.state = .active) (hm : s.drv.mode = .thrust f) :
    s.checkStroke = if s.strokeLimitReached true then s.endMode .failed .strokeEnd else s := by
  unfold State.checkStroke
  rw [ha, hm]

theorem State.checkStroke_of_notActive {s : State} (h : s.drv.state ≠ .active) : s.checkStroke = s := by
  unfold State.checkStroke
  split <;> simp_all

/-- Settles O21: the ACTIVE crowd mode is judged on the new stroke. -/
theorem strokeEventsEndFeedPullAndThrust : Obligations.StrokeEventsEndFeedPullAndThrust := by
  unfold Obligations.StrokeEventsEndFeedPullAndThrust
  intro n s hrole hn
  let u := s.withSens { s.sens with stroke := n }
  have hexec : exec (.strokeEvent n) s = .next u.checkStroke.finish := by
    change taken (s.role == some .crowd && n != s.sens.stroke)
      (fun s => (s.withSens { s.sens with stroke := n }).checkStroke) s = _
    exact taken_of_occurs _ s (by simp [hrole, hn])
  have hchecked : u.via [.drv, .pub, .line, .req, .op] u.checkStroke := by simp
  have hframe : s.via [.sens, .drv, .pub, .line, .req, .op] u.checkStroke :=
    State.via_checkStroke (State.via_withSens (State.via_refl _ s) (by decide) _) (by decide) (by decide) (by decide)
      (by decide) (by decide)
  refine ⟨_, hexec, ?_, fun hstate => ?_, fun e hactive hsource hentry _ hroom => ?_,
    State.sameBut_finish hframe (by decide) (by decide)⟩
  · rw [State.finish_sens, hchecked.same .sens (by decide)]
    rfl
  · rw [State.checkStroke_of_notActive (s := u) hstate]
    exact ⟨State.finish_drv u, State.finish_req u⟩
  · have hruns : u.RunsRequest e := ⟨hsource, hentry, hroom⟩
    refine ⟨fun v target hm => ?_, fun v target hm => ?_, fun f hm => ?_⟩
    · rw [State.checkStroke_of_feed (s := u) hactive hm]
      have hjudged := State.judgeStroke_judged hruns (decide (0 < v)) target
      rw [State.targetReached_iff, State.strokeLimitReached_iff] at hjudged
      exact hjudged
    · rw [State.checkStroke_of_pull (s := u) hactive hm]
      have hjudged := State.judgeStroke_judged hruns false target
      rw [State.targetReached_iff, State.strokeLimitReached_iff] at hjudged
      exact hjudged
    · rw [State.checkStroke_of_thrust (s := u) hactive hm]
      have hlimit := State.strokeLimitReached_iff (s := u) (down := true)
      refine ⟨fun h => ?_, fun h => ?_⟩
      · rw [if_pos (hlimit.mpr h)]
        exact hruns.ends .failed .strokeEnd
      · rw [if_neg fun h' => h (hlimit.mp h')]
        exact ⟨State.finish_drv u, State.finish_req u⟩

/-! ### Frames that an end leaves standing -/

/-- The frames that are no PUBLISH and of no sub-request stay in the queue. -/
def State.KeepsFrames (s t : State) : Prop :=
  ∀ g ∈ s.line.queue, g.isPublish = false → g.owner.isSubRequest = false → g ∈ t.line.queue

namespace State.KeepsFrames

theorem of_line {s t : State} (h : t.line = s.line) : s.KeepsFrames t := fun _ hg _ _ => h ▸ hg

theorem trans {s t u : State} (h : s.KeepsFrames t) (k : t.KeepsFrames u) : s.KeepsFrames u :=
  fun g hg hp hs => k g (h g hg hp hs) hp hs

theorem of_queues {P : TxFrame → Prop} {s t : State} (h : State.Queues P s t) : s.KeepsFrames t :=
  fun _ hg hp _ => h.mem hg hp

theorem finish (s : State) : s.KeepsFrames s.finish := of_queues (State.Queues.finished s)

theorem wound (o : OpRecord) (windDown : Bool) (s : State) : s.KeepsFrames (s.wound o windDown) := by
  intro g hg hp hs
  exact List.mem_filter.mpr ⟨(State.queueHolds_queues (o.acting windDown) s).mem hg hp, by simp [hs]⟩

theorem closeOp (o : OpRecord) (windDown : Bool) (answer : Option (Result × Reason)) (s : State) :
    s.KeepsFrames (s.closeOp o windDown answer) := (wound o windDown s).trans (of_queues (State.closeOp_queues _ _ _ s))

theorem endOp (res : Result) (why : Reason) (s : State) : s.KeepsFrames (s.endOp res why) := by
  unfold State.endOp
  split
  · exact of_line rfl
  · exact (of_line (State.giveHold_line s)).trans (closeOp _ _ _ _)

theorem faultOp (s : State) : s.KeepsFrames s.faultOp := by
  unfold State.faultOp
  split
  · exact of_line rfl
  · exact closeOp _ _ _ _

theorem endMode (res : Result) (why : Reason) (reported : Bool) (content : List Byte) (s : State) :
    s.KeepsFrames (s.endMode res why reported content) := by
  refine trans (t := s.holdDrive) (of_line (State.holdDrive_line s)) ?_
  unfold State.endMode
  dsimp only
  split
  · exact of_queues (State.Queues.replyTo _ _ _ _ _)
  · split
    · exact endOp _ _ _
    · exact of_line rfl
  · exact of_line rfl

theorem checkPay (room : Bool) (s : State) : s.KeepsFrames (s.checkPay room) := by
  unfold State.checkPay
  split
  · split_ifs
    · exact endMode _ _ _ _ _
    · exact endMode _ _ _ _ _
    · exact endMode _ _ _ _ _
    · exact of_line rfl
  · exact of_line rfl

theorem checkTop (s : State) : s.KeepsFrames s.checkTop := by
  unfold State.checkTop
  split
  · split
    · exact endMode _ _ _ _ _
    · exact of_line rfl
  · exact of_line rfl

theorem opDepth (s : State) : s.KeepsFrames s.opDepth := by
  unfold State.opDepth
  split
  · exact of_line rfl
  · split
    · split
      · exact endOp _ _ _
      · exact of_line rfl
    · split
      · exact endOp _ _ _
      · exact of_line rfl
    · exact of_line rfl

theorem judgeTool (s : State) : s.KeepsFrames s.judgeTool := by
  unfold State.judgeTool
  split
  · exact of_line (State.holdTool_line s)
  · exact of_line rfl

theorem winchHandOn (before : State) (rope : Bool) (s : State) : s.KeepsFrames (State.winchHandOn before rope s) := by
  unfold State.winchHandOn
  dsimp only
  split
  · exact (checkPay _ s).trans (checkTop _)
  · exact checkPay _ s

end State.KeepsFrames

/-! ### An event without an operation begins none (R83) -/

theorem State.endOp_op (res : Result) (why : Reason) (s : State) : (s.endOp res why).op = none := by
  unfold State.endOp
  split
  · assumption
  · exact State.closeOp_op _ _ _ _

theorem State.endMode_op_none {s : State} (h : s.op = none) (res : Result) (why : Reason) (reported : Bool)
    (content : List Byte) : (s.endMode res why reported content).op = none := by
  have hop : s.holdDrive.op = none := by rw [State.holdDrive_op, h]
  unfold State.endMode
  dsimp only
  split
  · exact ((State.via_replyTo (State.via_refl [.line, .req] _) (by decide) (by decide) _ _ _ _).same .op (by decide)).trans hop
  · split
    · exact State.endOp_op _ _ _
    · exact hop
  · exact hop

theorem State.checkPay_op_none {s : State} (h : s.op = none) (room : Bool) : (s.checkPay room).op = none := by
  unfold State.checkPay
  split
  · split_ifs
    · exact State.endMode_op_none h _ _ _ _
    · exact State.endMode_op_none h _ _ _ _
    · exact State.endMode_op_none h _ _ _ _
    · exact h
  · exact h

theorem State.checkTop_op_none {s : State} (h : s.op = none) : s.checkTop.op = none := by
  unfold State.checkTop
  split
  · split
    · exact State.endMode_op_none h _ _ _ _
    · exact h
  · exact h

theorem State.faultOp_op (s : State) : s.faultOp.op = none := by
  unfold State.faultOp
  split
  · assumption
  · exact State.closeOp_op _ _ _ _

theorem State.opDepth_op_none {s : State} (h : s.op = none) : s.opDepth.op = none := by
  unfold State.opDepth
  rw [h]
  exact h

theorem State.winchHandOn_op_none {s : State} (h : s.op = none) (before : State) (rope : Bool) :
    (State.winchHandOn before rope s).op = none := by
  unfold State.winchHandOn
  dsimp only
  split
  · exact State.checkTop_op_none (State.checkPay_op_none h _)
  · exact State.checkPay_op_none h _

/-! ### A rope event (R3, R6, R10) -/

theorem slipKind_ne_duplicateStation (slide : Nat → Nat) (c : Int) (after : Tracker) :
    slipKind slide c after ≠ .duplicateStation := by
  unfold slipKind
  split <;> decide

/-- R11, R58: what a tracker fault leaves besides the picture. -/
theorem State.trackerFault_node (k : FaultKind) (s : State) :
    (s.trackerFault k).node = { s.node with faults := s.node.faults.put k true, pull := s.node.pull.put k true } := by
  have hend : ∀ u : State, u.via Part.ending (u.faultOp.checkPay false) := fun u => by
    simp (maxDischargeDepth := 10) [Part.ending, Part.publication]
  rw [← State.raiseStop_node]
  exact (hend _).same .node (by decide)

theorem State.trackerFault_op (k : FaultKind) (s : State) : (s.trackerFault k).op = none :=
  State.checkPay_op_none (State.faultOp_op _) _

theorem State.trackerFault_queued {k : FaultKind} {s : State} (h : s.hasRoom 1) (hk : k ≠ .duplicateStation) :
    stopFrame k ∈ (s.trackerFault k).line.queue := by
  let u := (s.raiseStop k).withTrk { (s.raiseStop k).trk.cleared with state := .unknown, leftBy := some k }
  have hkeeps : (s.raiseStop k).KeepsFrames (u.faultOp.checkPay false) :=
    ((State.KeepsFrames.of_line (t := u) rfl).trans (State.KeepsFrames.faultOp u)).trans
      (State.KeepsFrames.checkPay false _)
  exact hkeeps _ (State.raiseStop_queued h hk) rfl rfl

theorem State.trackChange_of_slip {c : Int} {s : State}
    (h : s.node.setup.slipTol < (s.trk.attribute (fun j => (s.geom j).slide) s.freeInMirror c).residue.natAbs) :
    s.trackChange c = s.trackerFault
      (slipKind (fun j => (s.geom j).slide) c (s.trk.attribute (fun j => (s.geom j).slide) s.freeInMirror c)) :=
  if_neg (Nat.not_le.mpr h)

theorem State.trackRope_of_tracking {before s : State} (h : s.trk.state = .tracking) :
    State.trackRope before s = s.trackChange (s.E - before.E) := if_pos h

theorem State.trackRope_of_notTracking {before s : State} (h : s.trk.state ≠ .tracking) :
    State.trackRope before s = s := if_neg h

/-- What the checks after the tracker leave of it, of Node Control and of the readings. -/
theorem State.ropeChecks_via (s u : State) :
    u.via Part.ending ((State.winchHandOn s true u.opDepth).judgeTool).finish := by
  have h : u.via Part.ending (State.winchHandOn s true u.opDepth).judgeTool := by
    simp (maxDischargeDepth := 10) [Part.ending, Part.publication]
  exact State.via_finish h (by decide) (by decide)

theorem State.ropeChecks_op {u : State} (s : State) (h : u.op = none) :
    ((State.winchHandOn s true u.opDepth).judgeTool).finish.op = none := by
  have hjudge : ∀ v : State, v.judgeTool.op = v.op := fun v => by
    have hvia : v.via [.drv, .pub] v.judgeTool := by simp
    exact hvia.same .op (by decide)
  rw [State.finish_op, hjudge]
  exact State.winchHandOn_op_none (State.opDepth_op_none h) _ _

theorem State.ropeChecks_keeps (s u : State) :
    u.KeepsFrames ((State.winchHandOn s true u.opDepth).judgeTool).finish :=
  (((State.KeepsFrames.opDepth u).trans (State.KeepsFrames.winchHandOn _ _ _)).trans (State.KeepsFrames.judgeTool _)).trans
    (State.KeepsFrames.finish _)

/-- Settles O17: the change of the payout is the change of E that the tracker attributes. -/
theorem ropeEventAttributesOrFaults : Obligations.RopeEventAttributesOrFaults := by
  unfold Obligations.RopeEventAttributesOrFaults
  intro p s hrole hp
  let moved := s.withSens { s.sens with payout := p }
  let u := State.trackRope s moved
  have hexec : exec (.ropeEvent p) s = .next ((State.winchHandOn s true u.opDepth).judgeTool).finish := by
    change taken (s.role == some .winch && p != s.sens.payout) (State.ropeMoved p) s = _
    exact taken_of_occurs _ s (by simp [hrole, hp])
  have hchecks := State.ropeChecks_via s u
  have htrk := hchecks.same .trk (by decide)
  have hnode := hchecks.same .node (by decide)
  have hchange : moved.E - s.E = p - s.sens.payout := by
    change p - moved.strokeInUse - s.trk.ropeOffset - (s.sens.payout - s.strokeInUse - s.trk.ropeOffset) = _
    rw [show moved.strokeInUse = s.strokeInUse from rfl]
    omega
  have htracked : s.trk.state = .tracking → u = moved.trackChange (p - s.sens.payout) := fun h => by
    rw [← hchange]; exact State.trackRope_of_tracking (s := moved) h
  have hattributed := moved.trackChange_trk (p - s.sens.payout)
  refine ⟨_, hexec, ?_, fun hk hres => ?_, fun hk hslip => ?_, fun hk => ?_⟩
  · have hsens : moved.via [.node, .line, .req, .pub, .trk, .drv, .op] u := by simp [u]
    exact (hchecks.same .sens (by decide)).trans (hsens.same .sens (by decide))
  · exact htrk.trans ((congrArg State.trk (htracked hk)).trans (hattributed.trans (if_pos hres)))
  · have hfault : u = moved.trackerFault _ := (htracked hk).trans (State.trackChange_of_slip (s := moved) hslip)
    have hu := (congrArg State.trk hfault).trans (State.trackerFault_trk _ moved)
    have hn := hnode.trans ((congrArg State.node hfault).trans (State.trackerFault_node _ moved))
    have hcleared := htrk.trans hu
    refine ⟨by rw [hcleared], by rw [hcleared]; rfl, by rw [hcleared]; rfl, by rw [hcleared]; rfl, by rw [hcleared]; rfl,
      by rw [hcleared]; rfl, ?_, by rw [hn]; rfl, by rw [hn]; rfl, fun hroom f hf => ?_⟩
    · exact State.ropeChecks_op s ((congrArg State.op hfault).trans (State.trackerFault_op _ moved))
    · rw [List.mem_singleton.mp hf]
      refine State.ropeChecks_keeps s u _ ?_ rfl rfl
      rw [hfault]
      exact State.trackerFault_queued (s := moved) hroom (slipKind_ne_duplicateStation _ _ _)
  · have hu : u = moved := State.trackRope_of_notTracking (s := moved) hk
    have hstands : u.trk = moved.trk := congrArg State.trk hu
    exact (show _ = u.trk from htrk).trans hstands

/-! ### Kelly home (R15, R16, R17) -/

theorem State.corrected_event (s : State) (t : Tracker) : s.corrected t =
    { t with event := if s.trk.stack ≠ [] ∨ s.E ≠ 0 then
        { kind := .homeCorrection, amount := s.E, seq := (t.event.seq + 1) % 256 } else t.event } := by
  unfold State.corrected
  split
  · rfl
  · rfl

theorem State.trackHome_of_tracking {s : State} (h : s.trk.state = .tracking) :
    s.trackHome.trk = s.corrected s.rezeroed := by
  unfold State.trackHome
  rw [h]
  rfl

theorem State.trackHome_of_suspended {s : State} (h : s.trk.state = .suspended) :
    s.trackHome.trk = if s.strokeAvailable then s.corrected { s.rezeroed with es := 0 }
      else { s.trk.cleared with state := .unknown : Tracker }.write .trackingLost 0 := by
  unfold State.trackHome
  rw [h]
  simp only [apply_ite State.trk]
  rfl

theorem State.trackHome_of_unknown {s : State} (h : s.trk.state = .unknown) :
    s.trackHome = if s.strokeAvailable ∧ s.trk.joints ≠ [] then s.rezeroUnknown else s := by
  unfold State.trackHome
  rw [h]

theorem State.rezeroUnknown_trk (s : State) : s.rezeroUnknown.trk =
    if s.bothGood then { s.rezeroed with state := .tracking } else { s.rezeroed with state := .suspended, es := 0 } := by
  unfold State.rezeroUnknown
  dsimp only
  split <;> rfl

/-- R15: what a re-zero at the kelly home of `s` leaves in the tracker `k`. -/
def State.Zeroed (s : State) (k : Tracker) : Prop :=
  k.stack = [] ∧ k.residue = 0 ∧ k.joints = s.trk.joints.map (fun _ => JointRec.closed)
    ∧ k.ropeOffset = s.sens.payout - s.strokeInUse ∧ k.datumOffset = s.trk.datumOffset

theorem State.zeroed_rezeroed (s : State) : s.Zeroed s.rezeroed := ⟨rfl, rfl, rfl, rfl, rfl⟩

theorem State.zeroed_corrected {s : State} {k : Tracker} (h : s.Zeroed k) : s.Zeroed (s.corrected k) := by
  rw [State.corrected_event]
  exact h

/-- R62, R98, R101: what follows the tracker at kelly home leaves it as it is. -/
theorem State.homeChecks_via (s u : State) :
    u.via Part.ending ((((State.winchHandOn s false (State.trackLossNoted s u)).checkHome).judgeTool).finish) := by
  have h : u.via Part.ending (((State.winchHandOn s false (State.trackLossNoted s u)).checkHome).judgeTool) := by
    simp (maxDischargeDepth := 10) [Part.ending, Part.publication]
  exact State.via_finish h (by decide) (by decide)

/-- Settles O19: by the tracking state, what `trackHome` makes of the picture; the checks that follow keep it. -/
theorem kellyHomeReZerosTheTracker : Obligations.KellyHomeReZerosTheTracker := by
  unfold Obligations.KellyHomeReZerosTheTracker
  intro s hrole hhome
  let u := s.withSens { s.sens with home := true }
  let t := (((State.winchHandOn s false (State.trackLossNoted s u.trackHome)).checkHome).judgeTool).finish
  have hexec : exec .kellyHomeActive s = .next t :=
    taken_of_occurs State.cameHome s (by simp [hrole, hhome])
  have hhomed : u.via [.pub, .trk] u.trackHome := by simp
  have hchecks : u.trackHome.via Part.ending t := State.homeChecks_via s _
  have hvia : u.via (.trk :: Part.ending) t := (hhomed.mono (by decide)).trans (hchecks.mono (by decide))
  have htrk : t.trk = u.trackHome.trk := hchecks.same .trk (by decide)
  have hzeroed : ∀ k, t.trk = k → u.Zeroed k → t.trk.stack = [] ∧ t.trk.residue = 0
      ∧ t.trk.joints = s.trk.joints.map (fun _ => JointRec.closed)
      ∧ t.trk.ropeOffset = s.sens.payout - s.strokeInUse ∧ t.E = 0 ∧ t.trk.datumOffset = s.trk.datumOffset := by
    rintro k hk ⟨hstack, hres, hjoints, hrope, hdatum⟩
    rw [← hk] at hstack hres hjoints hrope hdatum
    exact ⟨hstack, hres, hjoints, hrope, State.E_of_rezero hvia (by decide) (by decide) (by decide) hrope, hdatum⟩
  refine ⟨t, hexec, hvia.same .sens (by decide), fun hk => ?_, fun hk hstroke => ?_, fun hk hstroke => ?_,
    fun hk hstroke hjoints => ?_, fun hk hno => ?_, (exec_kellyHomeActive_via hexec).1.mono (by decide)⟩
  · have hk' : t.trk = u.corrected u.rezeroed := htrk.trans (State.trackHome_of_tracking (s := u) hk)
    refine ⟨hzeroed _ hk' (State.zeroed_corrected u.zeroed_rezeroed), ?_, ?_⟩
    · rw [hk', State.corrected_event]
      exact hk
    · exact congrArg Tracker.event (hk'.trans (State.corrected_event u _))
  · have hk' : t.trk = u.corrected { u.rezeroed with es := 0 } :=
      htrk.trans ((State.trackHome_of_suspended (s := u) hk).trans (if_pos hstroke))
    refine ⟨hzeroed _ hk' (State.zeroed_corrected u.zeroed_rezeroed), ?_, ?_, ?_⟩
    · rw [hk', State.corrected_event]
      exact hk
    · rw [hk', State.corrected_event]
    · exact congrArg Tracker.event (hk'.trans (State.corrected_event u _))
  · have hk' : t.trk = { u.trk.cleared with state := .unknown : Tracker }.write .trackingLost 0 :=
      htrk.trans ((State.trackHome_of_suspended (s := u) hk).trans
        (if_neg (by rw [show u.strokeAvailable = false from hstroke]; decide)))
    rw [hk']
    exact ⟨rfl, rfl, rfl, rfl⟩
  · have hrezero : u.trackHome = u.rezeroUnknown := (State.trackHome_of_unknown (s := u) hk).trans (if_pos ⟨hstroke, hjoints⟩)
    have hk' : t.trk = _ := htrk.trans ((congrArg State.trk hrezero).trans u.rezeroUnknown_trk)
    have hgood : u.bothGood = s.bothGood := rfl
    cases hb : s.bothGood with
    | true =>
      rw [hgood, hb, if_pos rfl] at hk'
      exact ⟨hzeroed _ hk' u.zeroed_rezeroed, by rw [hk']; rfl, by rw [hk']; rfl, fun h => Bool.noConfusion h⟩
    | false =>
      rw [hgood, hb, if_neg Bool.false_ne_true] at hk'
      exact ⟨hzeroed _ hk' u.zeroed_rezeroed, by rw [hk']; rfl, by rw [hk']; rfl, fun _ => by rw [hk']⟩
  · have hstays : ¬(u.strokeAvailable = true ∧ u.trk.joints ≠ []) := by
      rintro ⟨h1, h2⟩
      exact hno.elim (fun h => Bool.false_ne_true (h.symm.trans h1)) h2
    have hu : u.trackHome = u := (State.trackHome_of_unknown (s := u) hk).trans (if_neg hstays)
    have hstands : u.trackHome.trk = u.trk := congrArg State.trk hu
    exact htrk.trans hstands

/-! ### The seat watch at an angle event (R35, R36, R37) -/

namespace LockMonitor

theorem clockwise_watch {l : LockMonitor} (n : Nat) (h : l.watch = true) : (l.clockwise n).watch = true := by
  unfold clockwise
  split
  · exact h
  · simp [h]

theorem clockwise_watchOfTurn {l : LockMonitor} (n : Nat) (h : l.watchOfTurn = true) :
    (l.clockwise n).watchOfTurn = true := by
  unfold clockwise
  split
  · exact h
  · simp [h]

theorem clockwise_stands (n : Nat) (l : LockMonitor) :
    (l.clockwise n).records = l.records ∧ (l.clockwise n).known = l.known ∧ (l.clockwise n).event = l.event := by
  unfold clockwise
  split <;> exact ⟨rfl, rfl, rfl⟩

/-- R30: the forward travel after a clockwise event. -/
theorem clockwise_fwd (n : Nat) (l : LockMonitor) :
    (l.clockwise n).fwd = min ((if l.dir = .forward then l.fwd else 0) + n) 32767 := by
  split
  · next hd => exact clockwise_fwd_of_forward n hd
  · next hd => rw [clockwise_fwd_of_start n hd, Nat.zero_add]

theorem passesRelease_iff {angle before : Nat} {l : LockMonitor} :
    l.passesRelease angle before = true ↔ before ≤ angle ∧ angle < l.rev ∧ l.records ≠ [] := by
  simp [passesRelease]

end LockMonitor

/-- R35: the watch ends in a miss. -/
theorem State.turnForward_of_miss {n : Nat} {s : State} (hw : s.locks.watch = true)
    (h : s.node.setup.lockAngle < (s.locks.clockwise n).fwd) : s.turnForward n
      = (((s.withLocks (s.locks.clockwise n).miss).signal).watchEnded (s.locks.clockwise n).watchOfTurn .failed .lockMiss
          []) := by
  unfold State.turnForward
  dsimp only
  rw [if_pos]
  simp [LockMonitor.clockwise_watch n hw, h]

/-- R35: equal travel does not end it. -/
theorem State.turnForward_of_within {n : Nat} {s : State} (h : (s.locks.clockwise n).fwd ≤ s.node.setup.lockAngle) :
    s.turnForward n = s.withLocks (s.locks.clockwise n) := by
  unfold State.turnForward
  dsimp only
  rw [if_neg]
  simp [Nat.not_lt.mpr h]

/-- The state whose monitor takes an angle event: the reading has moved. -/
def State.angled (c : Int) (s : State) : State := s.withSens { s.sens with angle := s.sens.angle + c }

theorem State.turn_of_pos {c : Int} (hc : 0 < c) (s : State) :
    s.turn c = ((((s.angled c).turnForward c.toNat).checkRelease).checkReverse).checkSpin c := by
  rw [State.turn, if_pos hc]
  rfl

theorem State.turn_of_neg {c : Int} (hc : c < 0) (s : State) :
    s.turn c = ((((s.angled c).turnBack (-c).toNat).checkRelease).checkReverse).checkSpin c := by
  rw [State.turn, if_neg hc.not_gt]
  rfl

/-- A drive that holds has no mode that counts travel. -/
theorem State.turnChecks_of_hold {s : State} (h : s.drv.mode = .hold) (c : Int) :
    ((s.checkRelease).checkReverse).checkSpin c = s := by
  have hrelease : s.checkRelease = s := by unfold State.checkRelease; rw [h]
  have hreverse : s.checkReverse = s := if_neg (by simp [Drive.boring, h])
  have hspin : s.checkSpin c = s := by unfold State.checkSpin; rw [h]
  rw [hrelease, hreverse, hspin]

theorem State.watchEnded_of_lock {s : State} (hm : s.drv.mode = .lock) (ha : s.drv.state = .active) (ofTurn : Bool)
    (res : Result) (why : Reason) (content : List Byte) :
    s.watchEnded ofTurn res why content = if ofTurn then s.endMode res why true content else s := by
  unfold State.watchEnded
  rw [hm, ha]

/-- R35: an ACTIVE LOCK whose turn the watch was of ends LOCK_MISS. -/
theorem State.missed_modeEnded {s : State} {e : ReqEntry} {c : Int} (hc : 0 < c) (hw : s.locks.watch = true)
    (h : s.node.setup.lockAngle < (s.locks.clockwise c.toNat).fwd) (hm : s.drv.mode = .lock) (ha : s.drv.state = .active)
    (hturn : s.locks.watchOfTurn = true) (hruns : s.RunsRequest e) : s.modeEnded e .failed .lockMiss (s.turn c).finish := by
  obtain ⟨hsource, hentry, hroom⟩ := hruns
  let u := ((s.angled c).withLocks (s.locks.clockwise c.toNat).miss).signal
  have hended : u.modeEnded e .failed .lockMiss (u.endMode .failed .lockMiss) :=
    State.endMode_modeEnded (s := u) hsource hentry (State.hasRoom_of_eq hroom rfl rfl) _ _ _
  have hforward : (s.angled c).turnForward c.toNat = u.endMode .failed .lockMiss := by
    refine (State.turnForward_of_miss (s := s.angled c) hw h).trans ?_
    exact (State.watchEnded_of_lock (s := u) hm ha _ _ _ _).trans (if_pos (LockMonitor.clockwise_watchOfTurn _ hturn))
  have hhold : (u.endMode .failed .lockMiss).drv.mode = .hold := hended.1.1
  rw [State.turn_of_pos hc, hforward, State.turnChecks_of_hold hhold]
  exact State.modeEnded_finish (State.modeEnded_of_eq hended rfl rfl)

theorem State.twisted_locks_of_closed {s : State} (h : s.locks.watch = false) : s.twisted.locks = s.locks := by
  have hstall : s.via [.drv, .pub] s.judgeStall := by simp
  have hseats : ¬s.seats = true := by simp [State.seats, h]
  unfold State.twisted
  dsimp only
  rw [if_neg hseats]
  exact hstall.same .locks (by decide)

theorem exec_torqueEvent_locks_of_closed {q : Int} {s t : State} (h : s.locks.watch = false)
    (hexec : exec (.torqueEvent q) s = .next t) : t.locks = s.locks := by
  have hnext : (if s.role == some .rotary && q != s.sens.torque
      then (s.withSens { s.sens with torque := q }).twisted.finish else s) = t := Host.Outcome.next.inj hexec
  split at hnext
  · rw [← hnext, State.finish_locks]
    exact State.twisted_locks_of_closed (s := s.withSens { s.sens with torque := q }) h
  · rw [← hnext]

/-- Settles O23: the miss by the travel that the event brings. -/
theorem forwardTravelPastLockAngleIsAMiss : Obligations.ForwardTravelPastLockAngleIsAMiss := by
  unfold Obligations.ForwardTravelPastLockAngleIsAMiss
  intro c s hrole hc hw
  have hexec := exec_angleEvent_of_rotary hrole hc.ne'
  have hfwd := s.locks.clockwise_fwd c.toNat
  obtain ⟨hrecords, hknown, hevent⟩ := s.locks.clockwise_stands c.toNat
  have hlocks : (s.turn c).finish.locks = ((s.angled c).turnForward c.toNat).locks := by
    rw [State.finish_locks, State.turn_of_pos hc]
    exact (State.turnChecks_via c _).same .locks (by decide)
  refine ⟨fun hmiss => ?_, fun hwithin => ?_⟩
  · rw [← hfwd] at hmiss
    have hl : (s.turn c).finish.locks = (s.locks.clockwise c.toNat).miss := by
      rw [hlocks, State.turnForward_of_miss (s := s.angled c) hw hmiss, State.watchEnded_locks]
      rfl
    have hvia : s.via (.sens :: .locks :: Part.ending) (s.turn c).finish := exec_angleEvent_via hexec
    have hrole' : (s.turn c).finish.role = some .rotary := (State.via_role hvia (by decide)).trans hrole
    refine ⟨_, hexec, by rw [hl]; rfl, by rw [hl]; exact hfwd, by rw [hl]; exact hrecords, by rw [hl]; exact hknown, ?_,
      fun e hm ha hturn hsource hentry hroom => State.missed_modeEnded hc hw hmiss hm ha hturn ⟨hsource, hentry, hroom⟩,
      fun d u hd hu => ?_, fun q u hu => ?_⟩
    · rw [hl, ← hfwd, ← hevent]
      rfl
    · rw [exec_angleEvent_of_rotary hrole' hd.ne'] at hu
      rw [← Host.Outcome.next.inj hu, State.finish_locks, (State.turn_travel_of_pos hd _).2.2,
        LockMonitor.clockwise_fwd_of_forward, hl, LockMonitor.miss_fwd, hfwd]
      rw [hl, LockMonitor.miss_dir, LockMonitor.clockwise_dir]
    · exact exec_torqueEvent_locks_of_closed (by rw [hl]; rfl) hu
  · rw [← hfwd] at hwithin
    have hl : (s.turn c).finish.locks = s.locks.clockwise c.toNat := by
      rw [hlocks, State.turnForward_of_within (s := s.angled c) hwithin]
      rfl
    exact ⟨_, hexec, by rw [hl]; exact LockMonitor.clockwise_watch _ hw, by rw [hl]; exact hfwd, by rw [hl]; exact hrecords,
      by rw [hl]; exact hknown, by rw [hl]; exact hevent⟩

/-- Settles O24: the release at the event that takes the travel past the angle, and no other. -/
theorem reverseTravelPastReleaseAngleFreesEveryJoint : Obligations.ReverseTravelPastReleaseAngleFreesEveryJoint := by
  unfold Obligations.ReverseTravelPastReleaseAngleFreesEveryJoint
  intro c s hrole hc hrecords
  let l := s.locks.anticlockwise (-c).toNat
  have hl : (s.turn c).finish.locks
      = if l.passesRelease s.node.setup.releaseAngle s.locks.rev then l.releaseAll else l := by
    rw [State.finish_locks, State.turn_of_neg hc, (State.turnChecks_via c _).same .locks (by decide)]
    unfold State.turnBack
    dsimp only
    rw [apply_ite State.locks]
    rfl
  have hpasses := LockMonitor.passesRelease_iff (angle := s.node.setup.releaseAngle) (before := s.locks.rev) (l := l)
  refine ⟨_, exec_angleEvent_of_rotary hrole hc.ne, ?_, ?_, fun hfrom hto => ?_, fun hnot => ?_⟩
  · rw [hl]
    split <;> rfl
  · rw [hl]
    split <;> rfl
  · rw [hl, if_pos (hpasses.mpr ⟨hfrom, hto, hrecords⟩)]
    exact ⟨rfl, rfl, rfl⟩
  · rw [hl, if_neg fun h => ?_]
    · exact ⟨rfl, rfl, rfl⟩
    · obtain ⟨hfrom, hto, -⟩ := hpasses.mp h
      exact hnot.elim (fun h => Nat.not_lt.mpr hfrom h) (fun h => Nat.not_lt.mpr h hto)

/-! ### Seat events (R32, R33, R34) -/

theorem State.seats_iff {s : State} : s.seats = true ↔
    s.locks.watch = true ∧ (s.node.setup.seatTorque : Int) ≤ s.sens.torque ∧ s.locks.fwd ≤ s.node.setup.lockAngle := by
  simp [State.seats, and_assoc]

theorem State.seatedRecords_get {s : State} {i : Nat} (h : i < s.locks.records.length) : s.seatedRecords[i]? =
    some (match s.locks.records.getD i none with
      | some k => some k
      | none => (s.geom (i + 1)).alignedPocket (s.locks.pocketCounts.getD i 0) (s.winchExt (i + 1))) := by
  have hget : s.seatedRecords[i]? = some (seatRecord (s.geom (i + 1)) (s.locks.pocketCounts.getD i 0) (s.winchExt (i + 1))
      (s.locks.records.getD i none)) := by
    simp [State.seatedRecords, List.getD, h]
  rw [hget]
  unfold seatRecord
  cases s.locks.records.getD i none <;> rfl

/-- R33, R34: the monitor after a torque event. -/
theorem State.twisted_locks (s : State) :
    s.twisted.locks = if s.seats then s.seatEvent.locks else s.locks := by
  have hstall : ∀ u : State, u.judgeStall.locks = u.locks := fun u => by
    have hvia : u.via [.drv, .pub] u.judgeStall := by simp
    exact hvia.same .locks (by decide)
  unfold State.twisted
  dsimp only
  rw [hstall]
  split_ifs
  · exact State.watchEnded_locks _ _ _ _ _
  · exact State.watchEnded_locks _ _ _ _ _
  · rfl

theorem State.seatEvent_locks (s : State) : s.seatEvent.locks =
    if s.goodGeometry then
      { s.locks with watch := false, records := s.seatedRecords, known := true : LockMonitor }.write .seated s.locks.fwd
    else { s.locks with watch := false, known := false : LockMonitor }.write .geometryStale s.locks.fwd := by
  unfold State.seatEvent
  dsimp only
  split <;> rfl

/-- Settles O25: the monitor by the seat event, judged on the new reading. -/
theorem seatEventsSeatTheAlignedJoints : Obligations.SeatEventsSeatTheAlignedJoints := by
  unfold Obligations.SeatEventsSeatTheAlignedJoints
  intro q s hrole hq
  let u := s.withSens { s.sens with torque := q }
  have hexec : exec (.torqueEvent q) s = .next u.twisted.finish := by
    change taken (s.role == some .rotary && q != s.sens.torque)
      (fun s => (s.withSens { s.sens with torque := q }).twisted) s = _
    exact taken_of_occurs _ s (by simp [hrole, hq])
  have hvia : u.via [.locks, .drv, .pub, .line, .req, .op] u.twisted := by simp (maxDischargeDepth := 10)
  have hsens : s.via [.sens] u := by simp [u]
  have hl : u.twisted.finish.locks = if u.seats then u.seatEvent.locks else u.locks :=
    (State.finish_locks _).trans u.twisted_locks
  have hseats := State.seats_iff (s := u)
  refine ⟨_, hexec, ?_, fun hseat hgood => ?_, fun hseat hstale => ?_, fun hnot => ?_,
    State.sameBut_finish ((hsens.mono (by decide)).trans (hvia.mono (by decide))) (by decide) (by decide)⟩
  · rw [State.finish_sens, hvia.same .sens (by decide)]
    rfl
  · rw [if_pos (hseats.mpr hseat), State.seatEvent_locks, if_pos (show u.goodGeometry = true from hgood)] at hl
    rw [hl]
    refine ⟨rfl, rfl, rfl, ?_, fun i hi => State.seatedRecords_get (s := u) hi⟩
    simp [LockMonitor.write, State.seatedRecords, u]
  · have hstale' : ¬u.goodGeometry = true := by rw [show u.goodGeometry = false from hstale]; decide
    rw [if_pos (hseats.mpr hseat), State.seatEvent_locks, if_neg hstale'] at hl
    rw [hl]
    exact ⟨rfl, rfl, rfl, rfl⟩
  · rw [if_neg fun h => hnot (hseats.mp h)] at hl
    exact hl

end Sys2Proof.Machine

/-! ## Timers -/

namespace Sys2Proof.Machine

/-! ### A drive that has gone to HOLD goes there again -/

theorem Drive.wentToHold.again {d e : Drive} {n : Nat} (h : d.wentToHold n e) : d.wentToHold n (e.toHold n).tidy := by
  obtain ⟨-, -, -, hstate, htimer⟩ := h
  obtain ⟨hmode, hpending, hclaim, -, hstate', htimer'⟩ := Drive.tidy_toHold n e
  refine ⟨hmode, hpending, hclaim, hstate'.trans ?_, htimer'.trans ?_⟩
  · rw [hstate]
    split <;> rfl
  · rw [if_neg (by rw [hstate]; split <;> decide), htimer]

theorem State.endOp_drv (res : Result) (why : Reason) (s : State) :
    (s.endOp res why).drv = s.drv ∨ (s.endOp res why).drv = s.giveHold.drv := by
  unfold State.endOp
  split
  · exact .inl rfl
  · exact .inr ((State.closeOp_via _ _ _ _).same .drv (by decide))

/-- R83: a mode that ends by itself leaves the drive in HOLD, whatever its source. -/
theorem State.endMode_wentToHold (res : Result) (why : Reason) (reported : Bool) (content : List Byte) (s : State) :
    s.drv.wentToHold s.node.setup.brakeSet (s.endMode res why reported content).drv := by
  have hhold := s.holdDrive_wentToHold
  unfold State.endMode
  dsimp only
  split
  · rw [(State.via_replyTo (State.via_refl [.line, .req] _) (by decide) (by decide) _ _ _ _).same .drv (by decide)]
    exact hhold
  · split
    · rcases State.endOp_drv res why s.holdDrive with h | h <;> rw [h]
      · exact hhold
      · have hagain := hhold.again
        rw [← State.holdDrive_node, ← State.holdDrive_drv] at hagain
        rw [← State.holdDrive_node]
        exact hagain
    · exact hhold
  · exact hhold

theorem State.endMode_of_operation {s : State} (h : s.drv.source = some .operation) (res : Result) (why : Reason)
    (content : List Byte) : s.endMode res why true content = s.holdDrive.endOp res why := by
  unfold State.endMode
  rw [h]
  rfl

/-- R57, R83: the operation whose mode has ended ends with it. -/
theorem State.endMode_opEnded {s : State} {o : OpRecord} {e : ReqEntry} (hsource : s.drv.source = some .operation)
    (h : s.runsFor o e) (res : Result) (why : Reason) (content : List Byte) :
    s.opEnded e o.subs res why (s.endMode res why true content) := by
  obtain ⟨hop, hentry, hroom⟩ := h
  have hruns : s.holdDrive.runsFor o e :=
    ⟨(State.holdDrive_op s).trans hop, (State.entryOf_of_req (by rw [State.holdDrive_req]) _).trans hentry,
      State.hasRoom_of_eq hroom (by rw [State.holdDrive_node]) (by rw [State.holdDrive_line])⟩
  have hhold := s.endMode_wentToHold res why true content
  rw [State.endMode_of_operation hsource] at hhold ⊢
  obtain ⟨hnone, -, hreply, hwound⟩ := State.endOp_opEnded hruns res why
  exact ⟨hnone, hhold, hreply, State.woundDownBut_of_eq hwound (by rw [State.holdDrive_req]) (by rw [State.holdDrive_node])
    (by rw [State.holdDrive_line])⟩

/-- R83: so in the words of the statements. -/
theorem State.endMode_endedItself (res : Result) (why : Reason) (s : State) :
    s.endedItself res why (s.endMode res why).finish := by
  refine ⟨?_, fun e hsource hentry hroom => ?_, fun o e hsource hruns => ?_⟩
  · rw [State.finish_drv]
    exact s.endMode_wentToHold res why true []
  · obtain ⟨-, hnone, hreply⟩ :=
      State.modeEnded_finish (State.endMode_modeEnded hsource hentry hroom res why true)
    exact ⟨hnone, hreply⟩
  · exact State.opEnded_finish (State.endMode_opEnded hsource hruns res why [])

/-- R83, R99: a PAY that has lost its tracking. -/
theorem State.endMode_payLost (s : State) : s.payLost (s.endMode .failed s.lossReason false).finish := by
  refine ⟨?_, fun e hsource hentry hroom => ?_⟩
  · rw [State.finish_drv]
    exact s.endMode_wentToHold _ _ false []
  · obtain ⟨-, hnone, hreply⟩ :=
      State.modeEnded_finish (State.endMode_modeEnded hsource hentry hroom .failed s.lossReason false)
    exact ⟨hnone, hreply⟩

/-! ### The drive's timers (R78, R82) -/

theorem State.replyHold_of_request {s : State} {e : ReqEntry} (hsource : s.drv.source = some (.request e.id))
    (hentry : s.entryOf e.id = some e) :
    s.replyHold = (s.withDrv { s.drv with source := none }).reply e .done := by
  unfold State.replyHold Drive.sourceEntry
  rw [hsource]
  exact State.replyTo_of_entry (s := s.withDrv { s.drv with source := none }) hentry _ _ _

/-- R82: the reply of a waiting HOLD changes the drive's source alone. -/
theorem State.replyHold_drv (s : State) :
    s.replyHold.drv.state = s.drv.state ∧ s.replyHold.drv.timer = s.drv.timer ∧ s.replyHold.drv.mode = s.drv.mode := by
  unfold State.replyHold
  split
  · rw [(State.via_replyTo (State.via_refl [.line, .req] _) (by decide) (by decide) _ _ _ _).same .drv (by decide)]
    exact ⟨rfl, rfl, rfl⟩
  · exact ⟨rfl, rfl, rfl⟩

/-- R78: the drive that leaves SETTING for its pending mode. -/
def Drive.towardPending (m : Mode) (brakeRelease : Nat) (d : Drive) : Drive :=
  { d with state := .releasing, mode := m, pending := none, timer := Timer.ms brakeRelease }

/-- Settles O27: the drive by its pending mode. -/
theorem brakeSetEntersHeldOrThePendingMode : Obligations.BrakeSetEntersHeldOrThePendingMode := by
  unfold Obligations.BrakeSetEntersHeldOrThePendingMode
  intro s hstate htimer
  have hexec : exec .brakeSetExpiry s = .next s.brakeIsSet.finish :=
    taken_of_occurs State.brakeIsSet s (by simp [hstate, htimer])
  refine ⟨_, hexec, fun hnone => ?_, fun m hm => ?_, (exec_brakeSetExpiry_via hexec).1⟩
  · let u := s.setDrv { s.drv with state := .held, timer := none }
    have hset : s.brakeIsSet = u.replyHold := by unfold State.brakeIsSet; rw [hnone]
    have hdrv : u.drv = { s.drv with state := .held, timer := none : Drive }.tidy := State.setDrv_drv _ s
    obtain ⟨hst, htm, hmd⟩ := u.replyHold_drv
    rw [hset, State.finish_drv, hst, htm, hmd, hdrv]
    refine ⟨rfl, rfl, rfl, fun e hsource hentry hroom => ?_⟩
    have hsource' : u.drv.source = some (.request e.id) := by rw [hdrv]; exact hsource
    have hentry' : u.entryOf e.id = some e := (State.entryOf_of_req (by rw [State.setDrv_req]) _).trans hentry
    have hroom' : (u.withDrv { u.drv with source := none }).hasRoom 1 :=
      State.hasRoom_of_eq hroom (by rw [State.withDrv_node, State.setDrv_node]) (by rw [State.withDrv_line, State.setDrv_line])
    rw [State.replyHold_of_request hsource' hentry']
    exact ⟨by rw [State.reply_drv]; rfl, State.replied_finish (State.reply_replied e _ _ _ hroom')⟩
  · let u := s.setDrv (s.drv.towardPending m s.node.setup.brakeRelease)
    have hset : s.brakeIsSet = u.judgeWithheld := by unfold State.brakeIsSet; rw [hm]; rfl
    have hmotion := (State.judgeWithheld_motion u).1
    rw [hset, State.finish_drv, State.finish_req, hmotion.state, hmotion.mode, hmotion.pending, hmotion.timer,
      State.judgeWithheld_req, State.setDrv_req, State.setDrv_drv]
    exact ⟨rfl, rfl, rfl, rfl, rfl⟩

/-! ### The publication timer (R159) -/

theorem State.finish_line_of_quiet {s : State} (h : s.canPublish = false) : s.finish.line = s.line := by
  unfold State.finish
  split
  · simp [h]
  · rfl

/-- Settles O29: the event signals, and a node that can publish queues its frame. -/
theorem periodicExpiryPublishesTheState : Obligations.PeriodicExpiryPublishesTheState := by
  unfold Obligations.PeriodicExpiryPublishesTheState
  intro s htimer
  have hexec : exec .periodicTimerExpiry s = .next (s.startPeriodic.signal).finish := by
    change taken s.pub.timer.isSome (fun s => (s.startPeriodic).signal) s = _
    exact taken_of_occurs _ s htimer
  refine ⟨_, hexec, ?_, fun hcan hroom => ?_, fun hcan => ?_, (exec_periodicTimerExpiry_via hexec).1⟩
  · rw [State.finish_pub_timer]
    rfl
  · exact State.finish_queuesPublication rfl hcan hroom
  · rw [State.finish_line_of_quiet (s := s.startPeriodic.signal) hcan]
    rfl

/-! ### The timers of an operation (R50, R52, R53, R54, R69) -/

theorem State.subRuns_of_subWith {s : State} {tag : Nat} {x : SubEntry} (h : s.subWith tag = some x)
    (timer : SubEntry → Timer) : s.subRuns tag timer = (timer x).isSome := by
  rw [State.subRuns, h]
  rfl

theorem State.mapSub_via (tag : Nat) (f : SubEntry → SubEntry) (s : State) : s.via [.op] (s.mapSub tag f) := by
  unfold State.mapSub
  split
  · exact State.via_refl _ s
  · exact State.via_withOp (State.via_refl _ s) (by decide) _

/-- R57: a timer that ends the operation. -/
theorem State.taken_endOp {s : State} {o : OpRecord} {e : ReqEntry} (h : s.runsFor o e) {b : Bool} (hb : b = true)
    {act : State → State} {why : Reason} (hact : act s = s.endOp .failed why) :
    ∃ t, taken b act s = .next t ∧ s.opEnded e o.subs .failed why t := by
  refine ⟨_, taken_of_occurs act s hb, ?_⟩
  rw [hact]
  exact State.opEnded_finish (State.endOp_opEnded h _ _)

/-- A timer that changes its entry alone. -/
theorem State.taken_mapSub {s : State} {tag : Nat} {x : SubEntry} (hx : s.subWith tag = some x) {b : Bool}
    (hb : b = true) {act : State → State} {f : SubEntry → SubEntry} (hact : act s = s.mapSub tag f)
    (hf : ∀ y, (f y).tag = y.tag) :
    ∃ t, taken b act s = .next t ∧ t.subWith tag = some (f x) ∧ s.sameBut [.op, .pub, .line] t := by
  refine ⟨_, taken_of_occurs act s hb, ?_, ?_⟩
  · rw [hact, subWith_of_op (State.finish_op _), State.subWith_mapSub hf, hx]
    rfl
  · rw [hact]
    exact State.sameBut_finish ((s.mapSub_via tag f).mono (by decide)) (by decide) (by decide)

/-- Settles O31: each timer of an entry, by the entry as it stands. -/
theorem subRequestTimersEndTheOperation : Obligations.SubRequestTimersEndTheOperation := by
  unfold Obligations.SubRequestTimersEndTheOperation
  intro s o e hruns
  refine ⟨fun tag x hx => ⟨fun hbound hout => ?_, fun hbound hin => ?_, fun hslow hclaim => ?_, fun hslow hclaim => ?_,
    fun hslow hclaim => ?_, fun hcont hdead hwait => ?_, fun hturn hdead => ?_⟩, fun hwait => ?_⟩
  · refine State.taken_endOp hruns ((State.subRuns_of_subWith hx _).trans hbound) ?_
    rw [State.sendBoundOut, if_neg (by rw [hout]; decide)]
  · obtain ⟨t, hexec, hsub, hframe⟩ := State.taken_mapSub hx ((State.subRuns_of_subWith hx (·.sendBound)).trans hbound)
      (act := State.sendBoundOut tag) (if_pos hin) (fun _ => rfl)
    exact ⟨t, _, hexec, hsub, rfl, rfl, hframe⟩
  · refine State.taken_endOp hruns ((State.subRuns_of_subWith hx _).trans hslow) ?_
    rw [State.slowWindowOut, hx, Option.map_some, hclaim]
  · refine State.taken_endOp hruns ((State.subRuns_of_subWith hx _).trans hslow) ?_
    rw [State.slowWindowOut, hx, Option.map_some, hclaim]
  · have hact : State.slowWindowOut tag s = s.mapSub tag fun e => { e with slow := none } := by
      rw [State.slowWindowOut, hx, Option.map_some, hclaim]
    obtain ⟨t, hexec, hsub, hframe⟩ := State.taken_mapSub hx ((State.subRuns_of_subWith hx (·.slow)).trans hslow)
      hact (fun _ => rfl)
    exact ⟨t, _, hexec, hsub, rfl, hframe⟩
  · refine State.taken_endOp hruns ?_ rfl
    simp [State.startDeadlineRuns, hx, hcont, hdead, hwait]
  · refine State.taken_endOp hruns ?_ rfl
    simp [State.replyDeadlineRuns, hx, hturn, hdead]
  · refine State.taken_endOp hruns ?_ rfl
    simp [State.publicationWaitRuns, hruns.1, hwait]

/-! ### A stall (R122 to R127, R132) -/

/-- An ACTIVE BORE with its attempt count, recovery phase and source. -/
structure Drive.BoresAt (m : Mode) (attempts : Nat) (phase : Recovery) (source : Option Source) (d : Drive) : Prop where
  boring : d.boring = true
  mode : d.mode = m
  active : d.state = .active
  attempts : d.attempts = attempts
  recovery : d.recovery = phase
  source : d.source = source

section
variable {m : Mode} {n : Nat} {r : Recovery} {src : Option Source} {s : State}

theorem Drive.BoresAt.tidy {d : Drive} (h : d.BoresAt m n r src) : d.tidy.BoresAt m n r src := by
  have hrecovery : d.tidy.recovery = d.recovery := if_pos h.boring
  exact ⟨h.boring, h.mode, h.active, h.attempts, hrecovery.trans h.recovery, h.source⟩

theorem Drive.BoresAt.setDrv {d : Drive} (h : d.BoresAt m n r src) (s : State) : (s.setDrv d).drv.BoresAt m n r src := by
  rw [State.setDrv_drv]
  exact h.tidy

theorem Drive.BoresAt.watch {d : Drive} (h : d.BoresAt m n r src) (w : StallWatch) (x : Timer) :
    { d with stall := w, stallTimer := x : Drive }.BoresAt m n r src :=
  ⟨h.boring, h.mode, h.active, h.attempts, h.recovery, h.source⟩

theorem Drive.BoresAt.attempt {d : Drive} (h : d.BoresAt m n r src) (k : Nat) :
    { d with attempts := k : Drive }.BoresAt m k r src := ⟨h.boring, h.mode, h.active, rfl, h.recovery, h.source⟩

theorem Drive.BoresAt.phase {d : Drive} (h : d.BoresAt m n r src) (p : Recovery) :
    { d with recovery := p : Drive }.BoresAt m n p src := ⟨h.boring, h.mode, h.active, h.attempts, rfl, h.source⟩

theorem Drive.BoresAt.judgeStall (h : s.drv.BoresAt m n r src) : s.judgeStall.drv.BoresAt m n r src := by
  unfold State.judgeStall
  dsimp only
  split
  · exact h
  split
  · split
    · exact (h.watch _ _).setDrv s
    · exact h
  · exact (h.watch _ _).setDrv s

theorem Drive.BoresAt.rejudgeStall (h : s.drv.BoresAt m n r src) : s.rejudgeStall.drv.BoresAt m n r src :=
  Drive.BoresAt.judgeStall ((h.watch _ _).setDrv s)

theorem Drive.BoresAt.stallJudged {d : Drive} (h : d.BoresAt m n r src) : d.stallJudged = true := by
  obtain ⟨hb, -, ha, -, -, -⟩ := h
  unfold Drive.boring at hb
  unfold Drive.stallJudged
  rw [ha]
  split at hb
  · next hm => rw [hm]
  · exact absurd hb Bool.false_ne_true

/-- R123, R125: the reverse phase ends at once when the travel is there already. -/
theorem Drive.BoresAt.checkReverse (h : s.drv.BoresAt m n .reversing src) : s.checkReverse.drv.BoresAt m n
    (if s.node.setup.reverseAngle ≤ s.locks.rev then .restarting else .reversing) src := by
  unfold State.checkReverse
  by_cases hrev : s.node.setup.reverseAngle ≤ s.locks.rev
  · have hcond : s.drv.stallJudged = true ∧ s.drv.boring = true ∧ s.drv.recovery = .reversing
        ∧ s.locks.rev ≥ s.node.setup.reverseAngle := ⟨h.stallJudged, h.boring, h.recovery, hrev⟩
    rw [if_pos hcond, if_pos hrev]
    exact ((h.phase .restarting).setDrv s).rejudgeStall
  · have hcond : ¬(s.drv.stallJudged = true ∧ s.drv.boring = true ∧ s.drv.recovery = .reversing
        ∧ s.locks.rev ≥ s.node.setup.reverseAngle) := fun hc => hrev hc.2.2.2
    rw [if_neg hcond, if_neg hrev]
    exact h

end

theorem State.checkReverse_req (s : State) : s.checkReverse.req = s.req := by
  unfold State.checkReverse
  split
  · have hvia : s.via [.drv, .pub] (s.setDrv { s.drv with recovery := .restarting }).rejudgeStall :=
      State.via_rejudgeStall (State.via_setDrv (State.via_refl _ s) (by decide) (by decide) _) (by decide) (by decide)
    exact hvia.same .req (by decide)
  · rfl

theorem State.holdDrive_records (s : State) : s.holdDrive.drv.attempts = s.drv.attempts
    ∧ s.holdDrive.drv.recovery = .boring ∧ s.holdDrive.drv.spin = Spin.unused := by
  rw [State.holdDrive_drv]
  refine ⟨?_, ?_, ?_⟩
  · unfold Drive.toHold
    split <;> rfl
  · have hmode := (Drive.tidy_toHold s.node.setup.brakeSet s.drv).1
    change (if (s.drv.toHold _).boring then _ else _) = _
    rw [if_neg]
    rw [Drive.boring, show (s.drv.toHold _).mode = .hold from hmode]
    decide
  · have hmode := (Drive.tidy_toHold s.node.setup.brakeSet s.drv).1
    change (if (s.drv.toHold _).spinning then _ else _) = _
    rw [if_neg]
    rw [Drive.spinning, show (s.drv.toHold _).mode = .hold from hmode]
    decide

theorem Drive.wentToHold.from_motion {d e f : Drive} {n : Nat} (h : d.wentToHold n e) (hm : f.SameMotion d) :
    f.wentToHold n e := by
  unfold Drive.wentToHold at *
  rw [← hm.state, ← hm.timer]
  exact h

/-- A mode of a request ends: the records of BORE and SPIN but for the attempt count are cleared. -/
theorem State.RunsRequest.ended {s u : State} {e : ReqEntry} (h : u.RunsRequest e) (hdrv : s.drv.SameMotion u.drv)
    (hset : u.node.setup = s.node.setup) (why : Reason) :
    s.modeEnded e .failed why (u.endMode .failed why).finish ∧ (u.endMode .failed why).finish.drv.attempts = u.drv.attempts
      ∧ (u.endMode .failed why).finish.drv.recovery = .boring ∧ (u.endMode .failed why).finish.drv.spin = Spin.unused := by
  obtain ⟨hhold, hsource, hreply⟩ := h.ends .failed why
  have hended : (u.endMode .failed why).finish.drv = u.holdDrive.drv := by
    rw [State.finish_drv, State.endMode_of_request h.source h.entry, State.reply_drv]
  obtain ⟨hattempts, hrecovery, hspin⟩ := u.holdDrive_records
  rw [hset] at hhold
  exact ⟨⟨hhold.from_motion hdrv, hsource, hreply⟩, by rw [hended, hattempts], by rw [hended, hrecovery],
    by rw [hended, hspin]⟩

/-! ### The expiry of the stall timer -/

/-- The state in which an expired stall watch is judged. -/
def State.stallCleared (s : State) : State := s.setDrv { s.drv with stall := .clear, stallTimer := none }

theorem State.stallCleared_motion (s : State) : s.drv.SameMotion s.stallCleared.drv :=
  State.setDrv_sameMotion ⟨rfl, rfl, rfl, rfl, rfl, rfl, rfl⟩

theorem State.stallCleared_attempts (s : State) : s.stallCleared.drv.attempts = s.drv.attempts := by
  rw [State.stallCleared, State.setDrv_drv]
  rfl

theorem State.boreLock_stallCleared (s : State) : s.stallCleared.boreLock = s.boreLock := by
  unfold State.stallCleared State.setDrv State.signalIf
  split <;> rfl

theorem State.RunsRequest.setDrv {s : State} {e : ReqEntry} (h : s.RunsRequest e) {d : Drive}
    (hd : d.source = s.drv.source) : (s.setDrv d).RunsRequest e :=
  ⟨by rw [State.setDrv_drv]; exact hd.trans h.source, (State.entryOf_of_req (by rw [State.setDrv_req]) _).trans h.entry,
    State.hasRoom_of_eq h.room (by rw [State.setDrv_node]) (by rw [State.setDrv_line])⟩

section
variable {s : State} {v q : Nat}

theorem State.stallTaken_of_boring (h : s.drv.mode = .bore v q) (hr : s.drv.recovery = .boring) :
    s.stallTaken = s.stallBoring := by
  unfold State.stallTaken
  rw [h, hr]

theorem State.stallTaken_of_reversing (h : s.drv.mode = .bore v q) (hr : s.drv.recovery = .reversing) :
    s.stallTaken = s.endMode .failed .stalled := by
  unfold State.stallTaken
  rw [h, hr]

theorem State.stallTaken_of_restarting (h : s.drv.mode = .bore v q) (hr : s.drv.recovery = .restarting) :
    s.stallTaken = s.restartCheck := by
  unfold State.stallTaken
  rw [h, hr]

end

theorem State.stallTaken_of_spin {s : State} {n : Nat} (h : s.drv.mode = .spin n) :
    s.stallTaken = s.endMode .failed .stalled := by
  unfold State.stallTaken
  rw [h]

/-- R122, R123: the attempt is counted before it is judged. -/
theorem State.stallBoring_of_le {s : State} (h : s.drv.attempts + 1 ≤ s.node.setup.stallTries) :
    s.stallBoring = (let u := s.setDrv { s.drv with attempts := s.drv.attempts + 1 }
      ((u.setDrv { u.drv with recovery := .reversing }).rejudgeStall).checkReverse) := by
  unfold State.stallBoring
  dsimp only
  rw [if_neg]
  rw [State.setDrv_node]
  exact Nat.not_lt.mpr h

theorem State.stallBoring_of_lt {s : State} (h : s.node.setup.stallTries < s.drv.attempts + 1) :
    s.stallBoring = (s.setDrv { s.drv with attempts := s.drv.attempts + 1 }).endMode .failed .stalled := by
  unfold State.stallBoring
  dsimp only
  rw [if_pos]
  rw [State.setDrv_node]
  exact h

/-- Settles O28: the recovery by its phase, each from the state with the watch cleared. -/
theorem stallExpiryRecoversOrEnds : Obligations.StallExpiryRecoversOrEnds := by
  unfold Obligations.StallExpiryRecoversOrEnds
  intro s e hwatch htimer hactive hsource hentry _ hroom
  let u := s.stallCleared
  have hexec : exec .stallTimerExpiry s = .next u.stallTaken.finish :=
    taken_of_occurs State.stallExpired s (by simp [hwatch, htimer])
  have hmotion : s.drv.SameMotion u.drv := s.stallCleared_motion
  have hattempts : u.drv.attempts = s.drv.attempts := s.stallCleared_attempts
  have hruns : u.RunsRequest e := State.RunsRequest.setDrv ⟨hsource, hentry, hroom⟩ rfl
  have hcleared : s.via [.drv, .pub] u := State.via_setDrv (State.via_refl _ s) (by decide) (by decide) _
  have hnode : u.node = s.node := State.setDrv_node _ s
  refine ⟨_, hexec, fun v q hm => ?_, fun n hm => ?_, ?_, (exec_stallTimerExpiry_via hexec).1.mono (by decide)⟩
  · have hbores : u.drv.BoresAt (.bore v q) s.drv.attempts s.drv.recovery s.drv.source :=
      Drive.BoresAt.setDrv (Drive.BoresAt.watch ⟨by simp [Drive.boring, hm], hm, hactive, rfl, rfl, rfl⟩ _ _) s
    refine ⟨fun hphase htries => ?_, fun hphase htries => ?_, fun hphase => ?_, fun hphase hlock => ?_,
      fun hphase hlock => ?_⟩
    · rw [State.stallTaken_of_boring hbores.mode (hbores.recovery.trans hphase),
        State.stallBoring_of_le (by rw [hattempts, hnode]; exact htries)]
      dsimp only
      let w := u.setDrv { u.drv with attempts := u.drv.attempts + 1 }
      let x := (w.setDrv { w.drv with recovery := .reversing }).rejudgeStall
      have hw := (hbores.attempt (u.drv.attempts + 1)).setDrv u
      have hx : x.drv.BoresAt _ _ _ _ := ((hw.phase .reversing).setDrv w).rejudgeStall
      have hvia : s.via [.drv, .pub] x :=
        State.via_rejudgeStall (State.via_setDrv (State.via_setDrv hcleared (by decide) (by decide) _) (by decide)
          (by decide) _) (by decide) (by decide)
      obtain ⟨-, hmode, hact, hatt, hrec, hsrc⟩ := hx.checkReverse
      rw [hvia.same .node (by decide), hvia.same .locks (by decide)] at hrec
      have hreq : x.checkReverse.req = s.req := (State.checkReverse_req x).trans (hvia.same .req (by decide))
      rw [State.finish_drv, State.finish_req]
      exact ⟨hmode, hact, hatt.trans (by rw [hattempts]), hrec, hsrc, hreq⟩
    · rw [State.stallTaken_of_boring hbores.mode (hbores.recovery.trans hphase),
        State.stallBoring_of_lt (by rw [hattempts, hnode]; exact htries)]
      obtain ⟨hended, hatt, -, -⟩ := State.RunsRequest.ended (s := s)
        (hruns.setDrv (d := { u.drv with attempts := u.drv.attempts + 1 }) rfl)
        (hmotion.trans (State.setDrv_sameMotion ⟨rfl, rfl, rfl, rfl, rfl, rfl, rfl⟩))
        (by rw [State.setDrv_node, hnode]) .stalled
      refine ⟨hended, hatt.trans ?_⟩
      rw [State.setDrv_drv, ← hattempts]
      rfl
    · rw [State.stallTaken_of_reversing hbores.mode (hbores.recovery.trans hphase)]
      obtain ⟨hended, hatt, hrec, -⟩ := hruns.ended hmotion (by rw [hnode]) .stalled
      exact ⟨hended, hatt.trans hattempts, hrec⟩
    · have hcheck : u.restartCheck = (u.setDrv { u.drv with recovery := .boring }).rejudgeStall := by
        exact if_pos (s.boreLock_stallCleared.trans hlock)
      rw [State.stallTaken_of_restarting hbores.mode (hbores.recovery.trans hphase), hcheck, State.finish_drv, State.finish_req]
      obtain ⟨-, hmode, hact, hatt, hrec, -⟩ := ((hbores.phase .boring).setDrv u).rejudgeStall
      have hvia : s.via [.drv, .pub] (u.setDrv { u.drv with recovery := .boring }).rejudgeStall :=
        State.via_rejudgeStall (State.via_setDrv hcleared (by decide) (by decide) _) (by decide) (by decide)
      exact ⟨hmode, hact, hrec, hatt, hvia.same .req (by decide)⟩
    · have hcheck : u.restartCheck = u.endMode .failed .relockFailed := by
        exact if_neg (by rw [show u.boreLock = s.boreLock from s.boreLock_stallCleared, hlock]; decide)
      rw [State.stallTaken_of_restarting hbores.mode (hbores.recovery.trans hphase), hcheck]
      obtain ⟨hended, hatt, -, -⟩ := hruns.ended hmotion (by rw [hnode]) .relockFailed
      exact ⟨hended, hatt.trans hattempts⟩
  · rw [State.stallTaken_of_spin (hmotion.mode.trans hm)]
    obtain ⟨hended, hatt, -, hspin⟩ := hruns.ended hmotion (by rw [hnode]) .stalled
    exact ⟨hended, hspin, hatt.trans hattempts⟩
  · have hvia : s.via Part.ending u.stallTaken.finish := exec_stallTimerExpiry_via hexec
    exact hvia.same .locks (by decide)

/-! ### The timers of parking (R207, R208) -/

theorem State.replyPark_of_entry {s : State} {e : ReqEntry} (h : s.parkEntry = some e) (res : Result) :
    s.replyPark res = s.reply e res := by
  unfold State.replyPark
  rw [h]

theorem heldOrder_nil : heldOrder [] [] = [] := rfl

/-- R208: with nothing held the wake is all. -/
theorem State.wakeAndTake_of_nothing_held {s : State} (hbc : s.node.heldBc = []) (h : ∀ e ∈ s.req.table, e.state ≠ .claimed) :
    s.wakeAndTake = s.wake := by
  have hes : (s.req.table.filter fun e => e.emptied && e.state == .claimed) = [] :=
    List.filter_eq_nil_iff.mpr fun e he => by simp [h e he]
  unfold State.wakeAndTake
  dsimp only
  rw [hes, hbc, heldOrder_nil]
  rfl

/-- Settles O32: the entry timer by the interruption, the wake timer with nothing held. -/
theorem parkTimersSettleAndWake : Obligations.ParkTimersSettleAndWake := by
  unfold Obligations.ParkTimersSettleAndWake
  intro s htimer
  refine ⟨fun e hpark hentry hroom => ?_, fun hpark hbc hclaimed => ?_⟩
  · have hexec : exec .parkEntryTimerExpiry s = .next s.parkEntered.finish :=
      taken_of_occurs State.parkEntered s (by simp [hpark, htimer])
    have hdrv : ∀ res, (s.reply e res).drv = s.drv := fun res => State.reply_drv _ _ _ _ s
    have hreplied : ∀ res, (s.reply e res).replied e res .noReason := fun res => State.reply_replied e _ _ _ hroom
    refine ⟨_, hexec, fun hnot => ?_, fun hint => ?_, ?_⟩
    · have hact : s.parkEntered
          = (s.reply e .done).withNode { s.node with park := .settled, parkTimer := none } := by
        rw [State.parkEntered, if_neg (by rw [hnot]; decide), State.replyPark_of_entry hentry]
      rw [hact, State.finish_node, State.finish_drv, State.withNode_node, State.withNode_drv, hdrv]
      exact ⟨rfl, rfl, rfl, State.replied_finish (hreplied .done)⟩
    · have hact : s.parkEntered = (s.reply e .parkInterrupted).beginWake := by
        rw [State.parkEntered, if_pos hint, State.replyPark_of_entry hentry]
      rw [hact, State.finish_node, State.finish_drv]
      exact ⟨rfl, rfl, rfl, State.replied_finish (hreplied .parkInterrupted)⟩
    · have hstate : s.parkEntered.node.state = s.node.state := by
        unfold State.parkEntered
        rw [State.replyPark_of_entry hentry, State.replyPark_of_entry hentry]
        split
        · change (s.reply e .parkInterrupted).node.state = _
          rw [State.reply_node]
        · rfl
      rw [State.finish_node, hstate]
  · have hexec : exec .wakeTimerExpiry s = .next s.wake.finish := by
      rw [← State.wakeAndTake_of_nothing_held hbc hclaimed]
      exact taken_of_occurs State.wakeAndTake s (by simp [hpark, htimer])
    refine ⟨_, hexec, ?_⟩
    rw [State.finish_node, State.finish_req, State.wake, State.setNodeState_node, State.setNodeState_req]
    exact ⟨rfl, rfl, rfl, rfl⟩

/-! ### Entry to ACTIVE (R78) -/

/-- R78: the drive whose release has completed. -/
def State.activated (s : State) : State := s.setDrv { s.drv with state := .active, timer := none }

theorem State.activated_via (s : State) : s.via [.drv, .pub] s.activated :=
  State.via_setDrv (State.via_refl _ s) (by decide) (by decide) _

theorem State.activated_drv (s : State) : s.activated.drv = { s.drv with state := .active, timer := none : Drive }.tidy :=
  State.setDrv_drv _ s

theorem State.becameActive_of_motion {s t : State} (h : s.activated.drv.SameMotion t.drv) : s.becameActive t := by
  have hdrv := s.activated_drv
  refine ⟨h.state.trans ?_, h.mode.trans ?_, h.timer.trans ?_, h.source.trans ?_, h.claim.trans ?_⟩ <;> rw [hdrv] <;> rfl

/-- An entry action that leaves the motion leaves the drive ACTIVE. -/
theorem State.becameActive_finish {s u : State} (h : s.activated.drv.SameMotion u.drv) : s.becameActive u.finish :=
  State.becameActive_of_motion (by rw [State.finish_drv]; exact h)

/-- A drive that was RELEASING holds as one that is ACTIVE does. -/
theorem State.wentToHold_of_activated {s : State} {e : Drive} (hr : s.drv.state = .releasing)
    (h : s.activated.drv.wentToHold s.activated.node.setup.brakeSet e) : s.drv.wentToHold s.node.setup.brakeSet e := by
  have hnode : s.activated.node = s.node := s.activated_via.same .node (by decide)
  have hstate : s.activated.drv.state = .active := by rw [s.activated_drv]; rfl
  obtain ⟨hmode, hpending, hclaim, hst, htimer⟩ := h
  rw [hstate, hnode] at *
  exact ⟨hmode, hpending, hclaim, by rw [hr]; exact hst, by rw [hr]; exact htimer⟩

theorem State.opEnded_of_activated {s t : State} {e : ReqEntry} {subs : List SubEntry} {res : Result} {why : Reason}
    (hr : s.drv.state = .releasing) (h : s.activated.opEnded e subs res why t) : s.opEnded e subs res why t := by
  obtain ⟨hnone, hhold, hreply, hwound⟩ := h
  have hvia := s.activated_via
  exact ⟨hnone, State.wentToHold_of_activated hr hhold, hreply,
    State.woundDownBut_of_eq hwound (by rw [hvia.same .req (by decide)]) (by rw [hvia.same .node (by decide)])
      (by rw [hvia.same .line (by decide)])⟩

section
variable {s : State}

theorem State.activated_source : s.activated.drv.source = s.drv.source := by
  rw [s.activated_drv]
  rfl

theorem State.activated_entryOf (id : Nat) : s.activated.entryOf id = s.entryOf id :=
  State.entryOf_of_req (by rw [show s.activated.req = s.req from s.activated_via.same .req (by decide)]) id

theorem State.activated_hasRoom {n : Nat} (h : s.hasRoom n) : s.activated.hasRoom n :=
  State.hasRoom_of_eq h (by rw [show s.activated.node = s.node from s.activated_via.same .node (by decide)])
    (by rw [show s.activated.line = s.line from s.activated_via.same .line (by decide)])

theorem State.activated_runsFor {o : OpRecord} {e : ReqEntry} (h : s.runsFor o e) : s.activated.runsFor o e := by
  obtain ⟨hop, hentry, hroom⟩ := h
  exact ⟨(s.activated_via.same .op (by decide)).trans hop, (State.activated_entryOf _).trans hentry,
    State.activated_hasRoom hroom⟩

/-- R78, R83: a mode that its entry check ends. -/
theorem State.endedItself_of_activated {t : State} {res : Result} {why : Reason} (hr : s.drv.state = .releasing)
    (h : s.activated.endedItself res why t) : s.endedItself res why t := by
  obtain ⟨hhold, hrequest, hoperation⟩ := h
  refine ⟨State.wentToHold_of_activated hr hhold, fun e hsource hentry hroom => ?_, fun o e hsource hruns => ?_⟩
  · exact hrequest e (State.activated_source.trans hsource) ((State.activated_entryOf _).trans hentry)
      (State.activated_hasRoom hroom)
  · exact State.opEnded_of_activated hr
      (hoperation o e (State.activated_source.trans hsource) (State.activated_runsFor hruns))

theorem State.payLost_of_activated {t : State} (hr : s.drv.state = .releasing) (h : s.activated.payLost t) :
    s.payLost t := by
  obtain ⟨hhold, hrequest⟩ := h
  have hreason : s.activated.lossReason = s.lossReason := by
    unfold State.lossReason
    rw [show s.activated.trk = s.trk from s.activated_via.same .trk (by decide)]
  refine ⟨State.wentToHold_of_activated hr hhold, fun e hsource hentry hroom => ?_⟩
  rw [← hreason]
  exact hrequest e (State.activated_source.trans hsource) ((State.activated_entryOf _).trans hentry)
    (State.activated_hasRoom hroom)

theorem State.ends_of_activated {res : Result} {why : Reason} (hr : s.drv.state = .releasing) :
    s.endedItself res why (s.activated.endMode res why).finish :=
  State.endedItself_of_activated hr (State.endMode_endedItself res why _)

end

/-! ### The entry actions by mode -/

section
variable {s : State}

/-- R96, R101: home is judged before the top joint. -/
theorem State.checkHome_of_haul {v : Nat} (ha : s.drv.state = .active) (hm : s.drv.mode = .haul v) :
    s.checkHome = if s.sens.home then s.endMode .done .home else s := by
  unfold State.checkHome
  rw [ha, hm]

theorem State.checkTop_of_haul {v : Nat} (ha : s.drv.state = .active) (hm : s.drv.mode = .haul v) :
    s.checkTop = if s.topSeated then s.endMode .failed .topSeated else s := by
  unfold State.checkTop
  rw [ha, hm]

theorem State.checkTop_of_hold (hm : s.drv.mode = .hold) : s.checkTop = s := by
  unfold State.checkTop
  rw [hm]

theorem State.enterHaul_of_haul {v : Nat} (ha : s.drv.state = .active) (hm : s.drv.mode = .haul v) :
    s.enterHaul = if s.sens.home then s.endMode .done .home
      else if s.topSeated then s.endMode .failed .topSeated else s := by
  unfold State.enterHaul
  rw [State.checkHome_of_haul ha hm]
  split
  · exact State.checkTop_of_hold (s.endMode_wentToHold _ _ _ _).1
  · exact State.checkTop_of_haul ha hm

theorem State.checkPay_of_pay {v : Nat} (ha : s.drv.state = .active) (hm : s.drv.mode = .pay v) :
    s.checkPay true = if s.trk.state ≠ .tracking then s.endMode .failed s.lossReason false
      else if s.node.setup.maxDepth ≤ s.D then s.endMode .failed .depthLimit
      else if s.room = 0 then s.endMode .failed .extensionEnd else s := by
  unfold State.checkPay
  rw [ha, hm]
  simp

theorem State.checkRelease_of_release (ha : s.drv.state = .active) (hm : s.drv.mode = .release) :
    s.checkRelease = if s.node.setup.releaseAngle + 50 ≤ s.locks.rev then s.endMode .done .noReason else s := by
  unfold State.checkRelease
  rw [ha, hm]

/-- R68: a FLOAT that begins no pull stays as it is. -/
theorem State.queueSub_motion (what : SubReq) (s : State) : (s.queueSub what).drv = s.drv := by
  have hvia : s.via [.line, .req, .op] (s.queueSub what) := by simp
  exact hvia.same .drv (by decide)

theorem State.setPhase_via (p : Phase) (s : State) : s.via [.pub, .op] (s.setPhase p) := by simp

theorem State.enterPulling_of_extend {o : OpRecord} {j k x : Nat} (ho : s.op = some o) (hspec : o.spec = .extend j k x)
    (hphase : o.phase = .tensioning) : s.enterPulling =
      if s.strokeInUse - ((x : Int) - s.targetExt j) < s.node.setup.strokeMin
      then (s.setPhase .pulling).endOp .failed .strokeEnd
      else (s.setPhase .pulling).queueSub (.pull (s.strokeInUse - ((x : Int) - s.targetExt j))) := by
  unfold State.enterPulling
  rw [ho]
  dsimp only
  rw [hspec, hphase]
  dsimp only
  rw [(s.setPhase_via .pulling).same .node (by decide)]

end

section
variable {s : State}

theorem State.activated_active : s.activated.drv.state = .active := by
  rw [s.activated_drv]
  rfl

theorem State.activated_mode : s.activated.drv.mode = s.drv.mode := by
  rw [s.activated_drv]
  rfl

/-- What reads neither the drive nor the change signal reads the same at the entry to ACTIVE. -/
theorem State.activated_reads {α : Type} (f : State → α)
    (h : ∀ d, f (s.withDrv d) = f s ∧ f (s.withDrv d).signal = f s) : f s.activated = f s := by
  unfold State.activated State.setDrv State.signalIf
  split
  · exact (h _).2
  · exact (h _).1

theorem exec_brakeReleaseExpiry_of_running (hr : s.drv.state = .releasing) (ht : s.drv.timer.isSome = true) :
    exec .brakeReleaseExpiry s = .next s.activated.enterActive.finish :=
  taken_of_occurs State.brakeReleased s (by simp [hr, ht])

/-- R40, R121, R131: the modes without an entry check. -/
theorem State.enterActive_unchecked (h : (∃ v, s.drv.mode = .turn v) ∨ s.drv.mode = .lock ∨ (∃ v q, s.drv.mode = .bore v q)
    ∨ ∃ n, s.drv.mode = .spin n) : s.drv.SameMotion s.enterActive.drv := by
  unfold State.enterActive
  rcases h with ⟨v, h⟩ | h | ⟨v, q, h⟩ | ⟨n, h⟩ <;> rw [h]
  · exact .refl _
  · change s.drv.SameMotion s.enterLock.drv
    unfold State.enterLock
    dsimp only
    split <;> exact .refl _
  · exact s.judgeStall_motion
  · change s.drv.SameMotion (s.setDrv { s.drv with spin := Spin.unused }).judgeStall.drv
    have hspin : s.drv.SameMotion (s.setDrv { s.drv with spin := Spin.unused }).drv :=
      State.setDrv_sameMotion ⟨rfl, rfl, rfl, rfl, rfl, rfl, rfl⟩
    exact hspin.trans (State.judgeStall_motion _)

/-- R78, R96, R101: HAUL at its entry. -/
theorem State.haulEntered {v : Nat} (hr : s.drv.state = .releasing) (hm : s.drv.mode = .haul v) :
    (s.sens.home = true → s.endedItself .done .home s.activated.enterActive.finish)
      ∧ (s.sens.home = false → s.topSeated = true → s.endedItself .failed .topSeated s.activated.enterActive.finish)
      ∧ (s.sens.home = false → s.topSeated = false → s.becameActive s.activated.enterActive.finish) := by
  have hmode : s.activated.drv.mode = .haul v := State.activated_mode.trans hm
  have henter : s.activated.enterActive = s.activated.enterHaul := by unfold State.enterActive; rw [hmode]
  have hhome : s.activated.sens.home = s.sens.home := State.activated_reads (fun u => u.sens.home) fun _ => ⟨rfl, rfl⟩
  have htop : s.activated.topSeated = s.topSeated := State.activated_reads _ fun _ => ⟨rfl, rfl⟩
  rw [henter, State.enterHaul_of_haul State.activated_active hmode, hhome, htop]
  refine ⟨fun h => ?_, fun h h' => ?_, fun h h' => ?_⟩
  · rw [if_pos h]
    exact State.ends_of_activated hr
  · rw [if_neg (by rw [h]; decide), if_pos h']
    exact State.ends_of_activated hr
  · rw [if_neg (by rw [h]; decide), if_neg (by rw [h']; decide)]
    exact State.becameActive_finish (.refl _)

/-- R78, R98, R99: PAY at its entry. -/
theorem State.payEntered {v : Nat} (hr : s.drv.state = .releasing) (hm : s.drv.mode = .pay v) :
    (s.trk.state ≠ .tracking → s.payLost s.activated.enterActive.finish)
      ∧ (s.trk.state = .tracking → s.node.setup.maxDepth ≤ s.D →
          s.endedItself .failed .depthLimit s.activated.enterActive.finish)
      ∧ (s.trk.state = .tracking → s.D < s.node.setup.maxDepth → s.room = 0 →
          s.endedItself .failed .extensionEnd s.activated.enterActive.finish)
      ∧ (s.trk.state = .tracking → s.D < s.node.setup.maxDepth → s.room ≠ 0 →
          s.becameActive s.activated.enterActive.finish) := by
  have hmode : s.activated.drv.mode = .pay v := State.activated_mode.trans hm
  have henter : s.activated.enterActive = s.activated.checkPay true := by unfold State.enterActive; rw [hmode]
  have htrk : s.activated.trk = s.trk := State.activated_reads _ fun _ => ⟨rfl, rfl⟩
  have hmax : s.activated.node.setup.maxDepth = s.node.setup.maxDepth :=
    State.activated_reads (fun u => u.node.setup.maxDepth) fun _ => ⟨rfl, rfl⟩
  have hD : s.activated.D = s.D := State.activated_reads _ fun _ => ⟨rfl, rfl⟩
  have hroom : s.activated.room = s.room := State.activated_reads _ fun _ => ⟨rfl, rfl⟩
  rw [henter, State.checkPay_of_pay State.activated_active hmode, htrk, hmax, hD, hroom]
  refine ⟨fun h => ?_, fun h h' => ?_, fun h h' h'' => ?_, fun h h' h'' => ?_⟩
  · rw [if_pos h]
    exact State.payLost_of_activated hr (State.endMode_payLost _)
  · rw [if_neg (not_not.mpr h), if_pos h']
    exact State.ends_of_activated hr
  · rw [if_neg (not_not.mpr h), if_neg (Int.not_le.mpr h'), if_pos h'']
    exact State.ends_of_activated hr
  · rw [if_neg (not_not.mpr h), if_neg (Int.not_le.mpr h'), if_neg h'']
    exact State.becameActive_finish (.refl _)

/-- R110: what a FEED or PULL meets at its entry, in the words of the statement. -/
theorem State.strokeJudged (hr : s.drv.state = .releasing) (down : Bool) (target : Option Int) :
    ((∃ g, target = some g ∧ if down then g ≤ s.sens.stroke else s.sens.stroke ≤ g) →
        s.endedItself .done .noReason (s.activated.judgeStroke down target).finish)
      ∧ (¬(∃ g, target = some g ∧ if down then g ≤ s.sens.stroke else s.sens.stroke ≤ g) →
          (if down then (s.node.setup.strokeMax : Int) ≤ s.sens.stroke else s.sens.stroke ≤ s.node.setup.strokeMin) →
          s.endedItself .failed .strokeEnd (s.activated.judgeStroke down target).finish)
      ∧ (¬(∃ g, target = some g ∧ if down then g ≤ s.sens.stroke else s.sens.stroke ≤ g) →
          (¬if down then (s.node.setup.strokeMax : Int) ≤ s.sens.stroke else s.sens.stroke ≤ s.node.setup.strokeMin) →
          s.becameActive (s.activated.judgeStroke down target).finish) := by
  have hreached : s.activated.targetReached down target = s.targetReached down target :=
    State.activated_reads (fun u => u.targetReached down target) fun _ => ⟨rfl, rfl⟩
  have hlimit : s.activated.strokeLimitReached down = s.strokeLimitReached down :=
    State.activated_reads (fun u => u.strokeLimitReached down) fun _ => ⟨rfl, rfl⟩
  rw [← State.targetReached_iff, ← State.strokeLimitReached_iff, State.judgeStroke, hreached, hlimit]
  refine ⟨fun h => ?_, fun h h' => ?_, fun h h' => ?_⟩
  · rw [if_pos h]
    exact State.ends_of_activated hr
  · rw [if_neg h, if_pos h']
    exact State.ends_of_activated hr
  · rw [if_neg h, if_neg h']
    exact State.becameActive_finish (.refl _)

theorem State.enterActive_of_feed_or_pull {down : Bool} {target : Option Int} (ha : s.drv.state = .active)
    (hm : (∃ v, s.drv.mode = .feed v target ∧ down = decide (0 < v)) ∨ (∃ v, s.drv.mode = .pull v target) ∧ down = false) :
    s.enterActive = s.judgeStroke down target := by
  unfold State.enterActive
  rcases hm with ⟨v, hm, rfl⟩ | ⟨⟨v, hm⟩, rfl⟩ <;> rw [hm]
  · exact State.checkStroke_of_feed ha hm
  · exact State.checkStroke_of_pull ha hm

/-- R68, R78: the FLOAT of an EXTEND at its entry: the pull begins, or passes STROKE_MIN. -/
def OpRecord.passesStrokeMin (s : State) (o : OpRecord) : Prop :=
  ∃ j k x, o.spec = .extend j k x ∧ o.phase = .tensioning
    ∧ s.strokeInUse - ((x : Int) - s.targetExt j) < s.node.setup.strokeMin

theorem State.enterPulling_motion (h : ∀ o, s.op = some o → ¬o.passesStrokeMin s) : s.enterPulling.drv = s.drv := by
  cases hop : s.op with
  | none => unfold State.enterPulling; rw [hop]
  | some o =>
    by_cases hext : ∃ j k x, o.spec = .extend j k x ∧ o.phase = .tensioning
    · obtain ⟨j, k, x, hspec, hphase⟩ := hext
      rw [State.enterPulling_of_extend hop hspec hphase, if_neg fun hlt => h o hop ⟨j, k, x, hspec, hphase, hlt⟩,
        State.queueSub_motion]
      exact (s.setPhase_via .pulling).same .drv (by decide)
    · unfold State.enterPulling
      rw [hop]
      dsimp only
      split
      · next j k x hspec hphase => exact absurd ⟨j, k, x, hspec, hphase⟩ hext
      · rfl

theorem State.enterPulling_opEnded {o : OpRecord} {e : ReqEntry} (h : s.runsFor o e) (hpass : o.passesStrokeMin s) :
    s.opEnded e o.subs .failed .strokeEnd s.enterPulling := by
  obtain ⟨hop, hentry, hroom⟩ := h
  obtain ⟨j, k, x, hspec, hphase, hlt⟩ := hpass
  have hvia := s.setPhase_via .pulling
  have hset : (s.setPhase .pulling).op = some { o with phase := .pulling } := by
    unfold State.setPhase
    rw [hop]
    exact State.signalOp_op _
  have hruns : (s.setPhase .pulling).runsFor { o with phase := .pulling } e :=
    ⟨hset, (State.entryOf_of_req (by rw [hvia.same .req (by decide)]) _).trans hentry,
      State.hasRoom_of_eq hroom (by rw [hvia.same .node (by decide)]) (by rw [hvia.same .line (by decide)])⟩
  rw [State.enterPulling_of_extend hop hspec hphase, if_pos hlt]
  exact State.opEnded_of_eq (State.endOp_opEnded hruns .failed .strokeEnd) (by rw [hvia.same .drv (by decide)])
    (by rw [hvia.same .drv (by decide)]) (by rw [hvia.same .req (by decide)]) (by rw [hvia.same .node (by decide)])
    (by rw [hvia.same .line (by decide)])

theorem OpRecord.passesStrokeMin_activated {o : OpRecord} : o.passesStrokeMin s.activated ↔ o.passesStrokeMin s := by
  have hstroke : s.activated.strokeInUse = s.strokeInUse := State.activated_reads _ fun _ => ⟨rfl, rfl⟩
  have hext : s.activated.targetExt = s.targetExt := State.activated_reads _ fun _ => ⟨rfl, rfl⟩
  have hset : s.activated.node.setup = s.node.setup := State.activated_reads (fun u => u.node.setup) fun _ => ⟨rfl, rfl⟩
  unfold OpRecord.passesStrokeMin
  rw [hstroke, hext, hset]

theorem State.floatEntered {v : Nat} (hr : s.drv.state = .releasing) (hm : s.drv.mode = .float v) :
    ((∀ o, s.op = some o → ¬o.passesStrokeMin s) → s.becameActive s.activated.enterActive.finish)
      ∧ ∀ o e, s.runsFor o e → o.passesStrokeMin s → s.opEnded e o.subs .failed .strokeEnd s.activated.enterActive.finish := by
  have hmode : s.activated.drv.mode = .float v := State.activated_mode.trans hm
  have henter : s.activated.enterActive = s.activated.enterPulling := by unfold State.enterActive; rw [hmode]
  have hop : s.activated.op = s.op := s.activated_via.same .op (by decide)
  rw [henter]
  refine ⟨fun h => ?_, fun o e hruns hpass => ?_⟩
  · refine State.becameActive_finish ?_
    rw [State.enterPulling_motion fun o ho hp => h o (hop ▸ ho) (OpRecord.passesStrokeMin_activated.mp hp)]
    exact .refl _
  · exact State.opEnded_of_activated hr (State.opEnded_finish
      (State.enterPulling_opEnded (State.activated_runsFor hruns) (OpRecord.passesStrokeMin_activated.mpr hpass)))

/-- R111: THRUST at its entry. -/
theorem State.thrustEntered {f : Nat} (hr : s.drv.state = .releasing) (hm : s.drv.mode = .thrust f) :
    ((s.node.setup.strokeMax : Int) ≤ s.sens.stroke → s.endedItself .failed .strokeEnd s.activated.enterActive.finish)
      ∧ (¬(s.node.setup.strokeMax : Int) ≤ s.sens.stroke → s.becameActive s.activated.enterActive.finish) := by
  have hmode : s.activated.drv.mode = .thrust f := State.activated_mode.trans hm
  have henter : s.activated.enterActive = s.activated.checkStroke := by unfold State.enterActive; rw [hmode]
  have hlimit : s.activated.strokeLimitReached true = s.strokeLimitReached true :=
    State.activated_reads (fun u => u.strokeLimitReached true) fun _ => ⟨rfl, rfl⟩
  have hiff := State.strokeLimitReached_iff (s := s) (down := true)
  rw [henter, State.checkStroke_of_thrust State.activated_active hmode, hlimit]
  refine ⟨fun h => ?_, fun h => ?_⟩
  · rw [if_pos (hiff.mpr h)]
    exact State.ends_of_activated hr
  · rw [if_neg fun h' => h (hiff.mp h')]
    exact State.becameActive_finish (.refl _)

/-- R43, R44: RELEASE at its entry. -/
theorem State.releaseEntered (hr : s.drv.state = .releasing) (hm : s.drv.mode = .release) :
    (s.node.setup.releaseAngle + 50 ≤ s.locks.rev → s.endedItself .done .noReason s.activated.enterActive.finish)
      ∧ (s.locks.rev < s.node.setup.releaseAngle + 50 → s.becameActive s.activated.enterActive.finish) := by
  have hmode : s.activated.drv.mode = .release := State.activated_mode.trans hm
  have henter : s.activated.enterActive = s.activated.checkRelease := by unfold State.enterActive; rw [hmode]
  have hrev : s.activated.locks.rev = s.locks.rev := State.activated_reads (fun u => u.locks.rev) fun _ => ⟨rfl, rfl⟩
  have hangle : s.activated.node.setup.releaseAngle = s.node.setup.releaseAngle :=
    State.activated_reads (fun u => u.node.setup.releaseAngle) fun _ => ⟨rfl, rfl⟩
  rw [henter, State.checkRelease_of_release State.activated_active hmode, hrev, hangle]
  refine ⟨fun h => ?_, fun h => ?_⟩
  · rw [if_pos h]
    exact State.ends_of_activated hr
  · rw [if_neg (Nat.not_le.mpr h)]
    exact State.becameActive_finish (.refl _)

end

/-- Settles O26: by the mode, its entry check at the drive just become ACTIVE. -/
theorem brakeReleaseEntersActive : Obligations.BrakeReleaseEntersActive := by
  unfold Obligations.BrakeReleaseEntersActive
  intro s hr ht
  have hexec := exec_brakeReleaseExpiry_of_running hr ht
  refine ⟨_, hexec, fun h => ?_, fun v hm => State.haulEntered hr hm, fun v hm => State.payEntered hr hm,
    fun v hm => State.floatEntered hr hm, fun target down hm => ?_, fun f hm => State.thrustEntered hr hm,
    fun hm => State.releaseEntered hr hm, (exec_brakeReleaseExpiry_via hexec).1.mono (by decide)⟩
  · refine State.becameActive_finish (State.enterActive_unchecked ?_)
    rw [State.activated_mode]
    exact h
  · rw [State.enterActive_of_feed_or_pull (down := down) (target := target) State.activated_active
      (by rw [State.activated_mode]; exact hm)]
    exact State.strokeJudged hr down target

end Sys2Proof.Machine

/-! ## Frames handled -/

namespace Sys2Proof.Machine

theorem handled_unsignalled {s : State} {row : Instr} {f : RxFrame} {act : RxFrame → State → State} (h : s.heads row f)
    (hs : s.settled) (hpub : (act f s.dropHeld).pub = s.pub) : handled row act s = .next (act f s.dropHeld) := by
  rw [handled_of_heads act h, State.finish_eq_of_settled hs _ hpub]

theorem State.dropHeld_via (s : State) : s.via [.rx, .line] s.dropHeld := by simp

/-! ### Stop notices (R205) and frames of an unknown kind (R191) -/

/-- Settles O43: neither row signals a change. -/
theorem stopNoticesAreKeptAndUnknownKindsDiscarded : Obligations.StopNoticesAreKeptAndUnknownKindsDiscarded := by
  unfold Obligations.StopNoticesAreKeptAndUnknownKindsDiscarded
  intro s f hs
  refine ⟨fun src cause hh hstop => ?_, fun hh => ?_⟩
  · change handled .stopHandled State.takeStopFrame s = _
    rw [handled_unsignalled hh hs rfl, State.takeStopFrame, hstop]
    rfl
  · change handled .unknownKindDiscard (fun _ s => s) s = _
    exact handled_unsignalled hh hs rfl

/-! ### Setup records (R201) -/

theorem heldItem_cons (k : Nat × Nat) (v : Int) (rest : List ((Nat × Nat) × Int)) (code index : Nat) :
    heldItem ((k, v) :: rest) code index = if k = (code, index) then some v else heldItem rest code index := by
  by_cases hk : k = (code, index) <;> simp [heldItem, hk]

/-- R201: a record stored is what the table holds for its key, and for no other. -/
theorem heldItem_storeItem (k : Nat × Nat) (v : Int) (items : List ((Nat × Nat) × Int)) (code index : Nat) :
    heldItem (storeItem k v items) code index = if k = (code, index) then some v else heldItem items code index := by
  induction items with
  | nil => exact heldItem_cons k v [] code index
  | cons x rest ih =>
    obtain ⟨k', v'⟩ := x
    by_cases hbefore : keyBefore k k' = true
    · rw [storeItem, if_pos hbefore, heldItem_cons]
    by_cases hsame : k = k'
    · rw [storeItem, if_neg hbefore, if_pos hsame, heldItem_cons, heldItem_cons, hsame]
      split <;> rfl
    · rw [storeItem, if_neg hbefore, if_neg hsame, heldItem_cons, heldItem_cons, ih]
      by_cases hk : k = (code, index)
      · rw [if_pos hk, if_pos hk, if_neg fun hk' => hsame (hk.trans hk'.symm)]
      · rw [if_neg hk, if_neg hk]

theorem mem_storeBad {k x : Nat × Nat} {bad : List (Nat × Nat)} : x ∈ storeBad k bad ↔ x = k ∨ x ∈ bad := by
  induction bad with
  | nil => simp [storeBad]
  | cons k' rest ih =>
    unfold storeBad
    split_ifs with hbefore hsame
    · simp
    · subst hsame; simp
    · simp only [List.mem_cons, ih]
      tauto

/-- The SETUP table after a list of records none of which is a COMMIT. -/
def storedItems (rs : List ItemRecord) (items : List ((Nat × Nat) × Int)) : List ((Nat × Nat) × Int) :=
  rs.foldl (fun items r => if (itemSpec r.code r.index).isSome then storeItem (r.code, r.index) r.value items else items)
    items

/-- The bad items after a list of records. -/
def storedBad (rs : List ItemRecord) (bad : List (Nat × Nat)) : List (Nat × Nat) :=
  rs.foldl (fun bad r => if (itemSpec r.code r.index).isSome then bad else storeBad (r.code, r.index) bad) bad

theorem State.takeItem_of_not_setup {s : State} (h : s.node.state ≠ .setup) (r : ItemRecord) : s.takeItem r = s := if_pos h

/-- R201: a record that is no COMMIT. -/
theorem State.takeItem_stores {s : State} (h : s.node.state = .setup) {r : ItemRecord} (hr : r.code ≠ 0x7F) :
    s.takeItem r = s.withNode { s.node with items := storedItems [r] s.node.items, badItems := storedBad [r] s.node.badItems } := by
  rw [State.takeItem, if_neg (not_not.mpr h)]
  unfold storedItems storedBad
  simp only [List.foldl_cons, List.foldl_nil]
  split_ifs <;> rfl

theorem State.foldl_takeItem_stores {s : State} (h : s.node.state = .setup) {rs : List ItemRecord}
    (hrs : ∀ r ∈ rs, r.code ≠ 0x7F) : rs.foldl (fun s r => s.takeItem r) s
      = s.withNode { s.node with items := storedItems rs s.node.items, badItems := storedBad rs s.node.badItems } := by
  induction rs generalizing s with
  | nil => rfl
  | cons r rs ih =>
    obtain ⟨hr, hrs⟩ := List.forall_mem_cons.mp hrs
    rw [List.foldl_cons, State.takeItem_stores h hr, ih (by exact h) hrs]
    rfl

theorem State.foldl_takeItem_of_not_setup {s : State} (h : s.node.state ≠ .setup) (rs : List ItemRecord) :
    rs.foldl (fun s r => s.takeItem r) s = s := by
  induction rs with
  | nil => rfl
  | cons r rs ih => rw [List.foldl_cons, State.takeItem_of_not_setup h, ih]

/-- R201: for a known key the last value carried is held. -/
theorem heldItem_storedItems (rs : List ItemRecord) (items : List ((Nat × Nat) × Int)) {code index : Nat}
    (h : (itemSpec code index).isSome = true) : heldItem (storedItems rs items) code index
      = rs.foldl (fun v r => if r.code = code ∧ r.index = index then some r.value else v) (heldItem items code index) := by
  induction rs generalizing items with
  | nil => rfl
  | cons r rs ih =>
    refine (ih _).trans ?_
    rw [List.foldl_cons]
    congr 1
    dsimp only
    by_cases hkey : r.code = code ∧ r.index = index
    · obtain ⟨rfl, rfl⟩ := hkey
      rw [if_pos h, heldItem_storeItem, if_pos rfl, if_pos ⟨rfl, rfl⟩]
    · rw [if_neg hkey]
      split
      · rw [heldItem_storeItem, if_neg fun hk => hkey (Prod.mk.inj hk)]
      · rfl

theorem mem_storedBad {rs : List ItemRecord} {bad : List (Nat × Nat)} {k : Nat × Nat} : k ∈ storedBad rs bad ↔
    k ∈ bad ∨ ∃ r ∈ rs, (itemSpec r.code r.index).isSome = false ∧ (r.code, r.index) = k := by
  induction rs generalizing bad with
  | nil => simp [storedBad]
  | cons r rs ih =>
    have hcons : storedBad (r :: rs) bad
        = storedBad rs (if (itemSpec r.code r.index).isSome then bad else storeBad (r.code, r.index) bad) := rfl
    rw [hcons, ih]
    rw [List.exists_mem_cons_iff]
    cases hspec : (itemSpec r.code r.index).isSome
    · rw [if_neg Bool.false_ne_true, mem_storeBad, or_comm (a := k = _), or_assoc, eq_comm (a := k)]
      simp
    · rw [if_pos rfl]
      simp

theorem State.takeSetupFrame_of_records {f : RxFrame} {rs : List ItemRecord} (hrs : f.setup? = some rs) (s : State) :
    s.takeSetupFrame f = rs.foldl (fun s r => s.takeItem r) s := by
  rw [State.takeSetupFrame, hrs]
  rfl

/-- Settles O44: record by record. -/
theorem setupRecordsStoreTheirValues : Obligations.SetupRecordsStoreTheirValues := by
  unfold Obligations.SetupRecordsStoreTheirValues
  intro s f rs hh hrs hs
  have hfold := State.takeSetupFrame_of_records hrs s.dropHeld
  refine ⟨fun hsetup hnocommit => ?_, fun hnot => ?_⟩
  · let u := s.dropHeld.withNode
      { s.node with items := storedItems rs s.node.items, badItems := storedBad rs s.node.badItems }
    have hact : s.dropHeld.takeSetupFrame f = u :=
      hfold.trans (State.foldl_takeItem_stores (s := s.dropHeld) hsetup hnocommit)
    have hexec : exec .setupHandled s = .next u := by
      change handled .setupHandled State.takeSetupFrame s = _
      rw [handled_unsignalled hh hs (by rw [hact]; rfl), hact]
    refine ⟨u, hexec, fun code index hspec => heldItem_storedItems rs _ hspec,
      fun r hr hspec => mem_storedBad.mpr (.inr ⟨r, hr, hspec, rfl⟩), fun k hk => ?_, hsetup, rfl, ?_⟩
    · exact (mem_storedBad.mp hk).imp_right fun ⟨r, hr, _, hkey⟩ => ⟨r, hr, hkey⟩
    · refine ⟨rfl, fun p hp => ?_⟩
      cases p with
      | rx | node | setup | line => exact absurd hp (by decide)
      | straps | mode => exact ⟨rfl, rfl⟩
      | clock | sens | req | peers | pub | share | trk | locks | drv | op => rfl
  · have hact : s.dropHeld.takeSetupFrame f = s.dropHeld :=
      hfold.trans (State.foldl_takeItem_of_not_setup (s := s.dropHeld) hnot rs)
    change handled .setupHandled State.takeSetupFrame s = _
    rw [handled_unsignalled hh hs (by rw [hact]; rfl), hact]

/-! ### Claims (R51) -/

theorem exec_claimHandled_of_claim {s : State} {f : RxFrame} {c : ClaimFrame} (h : s.heads .claimHandled f)
    (hc : f.claim? = some c) (hs : s.settled) : exec .claimHandled s = .next (s.dropHeld.opTakesClaim c) := by
  have hact : s.dropHeld.takeClaimFrame f = s.dropHeld.opTakesClaim c := by
    unfold State.takeClaimFrame
    rw [hc]
  have hvia : s.dropHeld.via [.op] (s.dropHeld.opTakesClaim c) := by
    unfold State.opTakesClaim
    split
    · exact State.mapSub_via _ _ _
    · exact State.via_refl _ _
  change handled .claimHandled State.takeClaimFrame s = _
  rw [handled_unsignalled h hs (by rw [hact]; exact hvia.same .pub (by decide)), hact]

namespace SubEntry
variable (src kind : Nat) (e : SubEntry)

theorem restart_claim : e.restart.claim = e.claim := by
  unfold restart
  split <;> rfl

theorem takeClaim_names : (e.takeClaim src kind).tag = e.tag ∧ (e.takeClaim src kind).what = e.what := by
  unfold takeClaim restart
  split <;> (repeat' split) <;> exact ⟨rfl, rfl⟩

theorem takeClaim_of_positive_new (h : e.claim ≠ .positive) :
    e.takeClaim src 0 = { e with claim := .positive, claimant := some src } := by
  unfold takeClaim
  split <;> simp_all

theorem takeClaim_of_positive {n : Nat} (h : e.claim = .positive) (hn : e.claimant = some n) :
    e.takeClaim src 0 = if src < n then { e.restart with claimant := some src } else e := by
  unfold takeClaim
  rw [h, hn]
  simp

theorem takeClaim_of_default (h : e.claim = .unclaimed) :
    e.takeClaim src 1 = { e with claim := .default, claimant := some src } := by
  unfold takeClaim
  rw [h]
  rfl

theorem takeClaim_of_default_late (h : e.claim ≠ .unclaimed) : e.takeClaim src 1 = e := by
  unfold takeClaim
  split <;> simp_all

end SubEntry

/-- Settles O41: the entry with the tag takes the CLAIM, by the claim it holds. -/
theorem claimsAreFollowedByTheLowestPositiveClaimant : Obligations.ClaimsAreFollowedByTheLowestPositiveClaimant := by
  unfold Obligations.ClaimsAreFollowedByTheLowestPositiveClaimant
  intro s f c hh hc hs
  have hexec := exec_claimHandled_of_claim hh hc hs
  refine ⟨fun hother => ?_, fun x hown hx => ?_⟩
  · have hclaim : s.dropHeld.opTakesClaim c = s.dropHeld := if_neg hother
    rw [hexec, hclaim]
  · have hclaim : s.dropHeld.opTakesClaim c = s.dropHeld.mapSub c.tag (SubEntry.takeClaim c.src c.kind) := if_pos hown
    rw [hclaim] at hexec
    have hsub : (s.dropHeld.mapSub c.tag (SubEntry.takeClaim c.src c.kind)).subWith c.tag
        = some (x.takeClaim c.src c.kind) := by
      rw [State.subWith_mapSub fun e => (e.takeClaim_names c.src c.kind).1,
        show s.dropHeld.subWith c.tag = some x from hx]
      rfl
    have hvia : s.via [.rx, .op, .line] (s.dropHeld.mapSub c.tag (SubEntry.takeClaim c.src c.kind)) :=
      (s.dropHeld_via.mono (by decide)).trans ((State.mapSub_via _ _ _).mono (by decide))
    refine ⟨_, _, hexec, hsub, (x.takeClaim_names _ _).2, fun hk hnot => ?_, fun n hk hpos hn hlt => ?_,
      fun n hk hpos hn hle => ?_, fun hk hun => ?_, fun hk hnot => ?_, hvia.1⟩
    · rw [hk, SubEntry.takeClaim_of_positive_new c.src x hnot]
      exact ⟨rfl, rfl⟩
    · rw [hk, SubEntry.takeClaim_of_positive c.src x hpos hn, if_pos hlt]
      refine ⟨(x.restart_claim).trans hpos, rfl, fun hcont => ?_⟩
      rw [SubEntry.restart, if_pos hcont]
      exact ⟨rfl, rfl⟩
    · rw [hk, SubEntry.takeClaim_of_positive c.src x hpos hn, if_neg (Nat.not_lt.mpr hle)]
    · rw [hk, SubEntry.takeClaim_of_default c.src x hun]
      exact ⟨rfl, rfl⟩
    · rw [hk, SubEntry.takeClaim_of_default_late c.src x hnot]

/-! ### Replies (R51, R55) -/

theorem Reason.code_ofCode (n : Nat) : (Reason.ofCode n).code = n := by
  unfold Reason.ofCode
  split <;> rfl

theorem Reason.ofCode_ne {n : Nat} {why : Reason} (h : n ≠ why.code) : Reason.ofCode n ≠ why := fun heq =>
  h ((Reason.code_ofCode n).symm.trans (congrArg Reason.code heq))

/-- The entry of a tag changed, then dropped with its tag: the other entries stand. -/
theorem filter_map_tag {tag : Nat} {y : SubEntry} (hy : y.tag = tag) (subs : List SubEntry) :
    ((subs.map fun e => if e.tag == tag then y else e).filter fun e => e.tag != tag)
      = subs.filter fun e => e.tag != tag := by
  induction subs with
  | nil => rfl
  | cons x xs ih =>
    rw [List.map_cons, List.filter_cons, List.filter_cons, ih]
    by_cases hx : x.tag = tag <;> simp [hx, hy]

/-- R47: the record without the entry of a tag. -/
def State.withoutSub (tag : Nat) (o : OpRecord) (s : State) : State :=
  s.withOp (some { o with subs := o.subs.filter fun e => e.tag != tag })

theorem State.dropSub_mapSub {s : State} {o : OpRecord} (ho : s.op = some o) {tag : Nat} {y : SubEntry}
    (hy : y.tag = tag) : (s.mapSub tag fun _ => y).dropSub tag = s.withoutSub tag o := by
  have hmap : (s.mapSub tag fun _ => y) = s.withOp (some (o.mapSub tag fun _ => y)) := by
    unfold State.mapSub
    rw [ho]
  rw [hmap]
  unfold State.dropSub State.withoutSub
  rw [State.withOp_op]
  dsimp only [OpRecord.mapSub]
  rw [filter_map_tag hy]
  rfl

theorem State.runsFor_withoutSub {s : State} {o : OpRecord} {e : ReqEntry} (h : s.runsFor o e) (tag : Nat) :
    (s.withoutSub tag o).runsFor { o with subs := o.subs.filter fun e => e.tag != tag } e := by
  obtain ⟨-, hentry, hroom⟩ := h
  refine ⟨rfl, hentry, ?_⟩
  have hle : (o.subs.filter fun e => e.tag != tag).length ≤ o.subs.length := List.length_filter_le _ _
  exact State.hasRoom_of_eq (State.hasRoom.mono hroom (Nat.add_le_add_left hle 1)) rfl rfl

/-- R55, R57: an end by the REPLY of an entry winds down the others. -/
theorem State.withoutSub_endOp {s : State} {o : OpRecord} {e : ReqEntry} (h : s.runsFor o e) (tag : Nat) (res : Result)
    (why : Reason) : s.opEnded e (o.subs.filter fun e => e.tag != tag) res why ((s.withoutSub tag o).endOp res why).finish :=
  State.opEnded_finish (State.opEnded_of_eq (State.endOp_opEnded (State.runsFor_withoutSub h tag) res why) rfl rfl rfl rfl rfl)

theorem State.abortOp_of_op {s : State} {o : OpRecord} (h : s.op = some o) :
    s.abortOp = s.giveHold.closeOp o false (some (.aborted, .noReason)) := by
  unfold State.abortOp
  rw [h]

theorem State.withoutSub_abortOp {s : State} {o : OpRecord} {e : ReqEntry} (h : s.runsFor o e) (tag : Nat) :
    s.opEnded e (o.subs.filter fun e => e.tag != tag) .aborted .noReason ((s.withoutSub tag o).abortOp).finish := by
  obtain ⟨hop, hentry, hroom⟩ := State.runsFor_withoutSub h tag
  rw [State.abortOp_of_op hop]
  exact State.opEnded_finish (State.opEnded_of_eq (State.holdClose_opEnded hentry hroom (.inr rfl)) rfl rfl rfl rfl rfl)

theorem exec_replyHandled_of_ignored {s : State} {f : RxFrame} {r : ReplyFrame} (h : s.heads .replyHandled f)
    (hr : f.reply? = some r) (hs : s.settled) (hno : s.dropHeld.opTakesReply r = s.dropHeld) :
    exec .replyHandled s = .next s.dropHeld := by
  have hact : s.dropHeld.takeReplyFrame f = s.dropHeld := by
    unfold State.takeReplyFrame
    rw [hr]
    exact hno
  change handled .replyHandled State.takeReplyFrame s = _
  rw [handled_unsignalled h hs (by rw [hact]; rfl), hact]

theorem SubEntry.followReply_of_positive {x : SubEntry} (h : x.claim = .positive) (src res : Nat) :
    x.followReply src res = if x.claimant = some src then some x else none := by
  unfold SubEntry.followReply
  rw [h]

/-- R55: the effect of the REPLY of a POSITIVE entry's claimant. -/
theorem State.opTakesReply_of_claimant {s : State} {r : ReplyFrame} {x : SubEntry} (hown : r.requester = s.station)
    (hx : s.subWith r.tag = some x) (hpos : x.claim = .positive) (hc : x.claimant = some r.src) :
    s.opTakesReply r = (s.mapSub r.tag fun _ => { x with reply := some (r.result, r.reason) }).subReplied
      { x with reply := some (r.result, r.reason) } r.result (Reason.ofCode r.reason) r.content := by
  unfold State.opTakesReply
  rw [if_pos hown, hx, Option.bind_some, SubEntry.followReply_of_positive hpos, if_pos hc]

theorem State.opTakesReply_of_unfollowed {s : State} {r : ReplyFrame}
    (h : r.requester ≠ s.station ∨ (s.subWith r.tag).bind (SubEntry.followReply r.src r.result) = none) :
    s.opTakesReply r = s := by
  unfold State.opTakesReply
  split
  · next hown => rw [h.resolve_left (not_not.mpr hown)]
  · rfl

/-- R55: the row of a result, by the codes of R197. -/
theorem State.subReplied_of_strokeEnd (y : SubEntry) (res : Nat) (content : List Byte) (s : State) :
    s.subReplied y res .strokeEnd content = (s.dropSub y.tag).endOp .failed .strokeEnd := if_pos rfl

theorem State.subReplied_of_done {why : Reason} (hw : why ≠ .strokeEnd) (y : SubEntry) (content : List Byte) (s : State) :
    s.subReplied y Result.done.code why content = s.subDone y content := by
  rw [State.subReplied, if_neg hw, if_pos rfl]

theorem State.subReplied_of_aborted {why : Reason} (hw : why ≠ .strokeEnd) (y : SubEntry) (content : List Byte)
    (s : State) : s.subReplied y Result.aborted.code why content = (s.dropSub y.tag).abortOp := by
  rw [State.subReplied, if_neg hw, if_neg (by decide), if_pos rfl]

theorem State.subReplied_of_failed {why : Reason} (hw : why ≠ .strokeEnd) (y : SubEntry) (content : List Byte)
    (s : State) : s.subReplied y Result.failed.code why content = s.subFailed y why := by
  rw [State.subReplied, if_neg hw, if_neg (by decide), if_neg (by decide), if_neg (by decide), if_pos rfl]

theorem State.subReplied_of_refusal {why : Reason} {res : Nat} (hw : why ≠ .strokeEnd) (hr : res ∈ [1, 2, 3, 4, 5])
    (y : SubEntry) (content : List Byte) (s : State) :
    s.subReplied y res why content = (s.dropSub y.tag).endOp .failed .peerRefused := by
  have hcodes : res ≠ Result.done.code ∧ res ≠ Result.aborted.code ∧ res ≠ Result.noOwner.code
      ∧ res ≠ Result.failed.code := by
    revert res
    decide
  obtain ⟨h1, h2, h3, h4⟩ := hcodes
  rw [State.subReplied, if_neg hw, if_neg h1, if_neg h2, if_neg h3, if_neg h4]

/-- Settles O42: the REPLY of the claimant by its row of R55; any other is ignored. -/
theorem repliesEndTheOperation : Obligations.RepliesEndTheOperation := by
  unfold Obligations.RepliesEndTheOperation
  refine ⟨fun s f r hh hr hs hno => ?_, fun s o e f r x hh hr hown hruns hx hpos => ⟨fun hc => ?_, fun hc hs => ?_⟩⟩
  · refine exec_replyHandled_of_ignored hh hr hs (State.opTakesReply_of_unfollowed ?_)
    exact hno.imp_right fun hx => by rw [show s.dropHeld.subWith r.tag = none from hx]; rfl
  · let y : SubEntry := { x with reply := some (r.result, r.reason) }
    have htag : x.tag = r.tag := by
      rw [State.subWith, hruns.1] at hx
      simpa using List.find?_some hx
    have hheld : s.dropHeld.runsFor o e := hruns
    have hact : s.dropHeld.takeReplyFrame f
        = (s.dropHeld.mapSub r.tag fun _ => y).subReplied y r.result (Reason.ofCode r.reason) r.content := by
      unfold State.takeReplyFrame
      rw [hr]
      exact State.opTakesReply_of_claimant (s := s.dropHeld) hown hx hpos hc
    have hdrop : (s.dropHeld.mapSub r.tag fun _ => y).dropSub y.tag = s.dropHeld.withoutSub r.tag o := by
      rw [show y.tag = r.tag from htag]
      exact State.dropSub_mapSub (s := s.dropHeld) (y := y) hruns.1 htag
    have hexec : exec .replyHandled s = .next (s.dropHeld.takeReplyFrame f).finish :=
      handled_of_heads State.takeReplyFrame hh
    have hends : ∀ res why, s.opEnded e (o.subs.filter fun y => y.tag != r.tag) res why
        (((s.dropHeld.mapSub r.tag fun _ => y).dropSub y.tag).endOp res why).finish := fun res why => by
      rw [hdrop]
      exact State.opEnded_of_eq (State.withoutSub_endOp hheld r.tag res why) rfl rfl rfl rfl rfl
    refine ⟨_, hexec, ?_⟩
    rw [hact]
    refine ⟨fun hreason => ?_, fun hreason hres hwhat => ?_, fun hreason hres => ?_, fun hreason hres => ?_,
      fun hreason hres hwhat => ?_⟩
    · rw [hreason, show Reason.ofCode Reason.strokeEnd.code = .strokeEnd from rfl, State.subReplied_of_strokeEnd]
      exact hends .failed .strokeEnd
    · rw [hres, State.subReplied_of_failed (Reason.ofCode_ne hreason), State.subFailed, if_neg]
      · exact hends .failed _
      · rintro ⟨hlock, hmiss⟩
        exact hwhat.elim (fun h => h hlock) fun h => Reason.ofCode_ne h hmiss
    · rw [State.subReplied_of_refusal (Reason.ofCode_ne hreason) hres]
      exact hends .failed .peerRefused
    · rw [hres, State.subReplied_of_aborted (Reason.ofCode_ne hreason), hdrop]
      exact State.opEnded_of_eq (State.withoutSub_abortOp hheld r.tag) rfl rfl rfl rfl rfl
    · rw [hres, State.subReplied_of_done (Reason.ofCode_ne hreason)]
      have hdone : (s.dropHeld.mapSub r.tag fun _ => y).subDone y r.content
          = ((s.dropHeld.mapSub r.tag fun _ => y).dropSub y.tag).endOp .failed .peerRefused := by
        unfold State.subDone
        rcases hwhat with ⟨k, hk⟩ | ⟨k, hk⟩
        · rw [show y.what = .thrust k from hk]
        · rw [show y.what = .winchFloat k from hk]
      rw [hdone]
      exact hends .failed .peerRefused
  · refine exec_replyHandled_of_ignored hh hr hs (State.opTakesReply_of_unfollowed (.inr ?_))
    rw [show s.dropHeld.subWith r.tag = some x from hx, Option.bind_some, SubEntry.followReply_of_positive hpos, if_neg hc]

/-! ### Broadcasts (R175, R208) -/

theorem State.started_of_ready {s : State} (h : s.node.state = .ready) : s.started = s.setNodeState .run := if_pos h

theorem State.started_of_other {s : State} (h : s.node.state ≠ .ready) : s.started = s := if_neg h

theorem State.halted_of_run {s : State} (h : s.node.state = .run) : s.halted = s.abortAll := if_pos h

theorem State.halted_of_other {s : State} (h : s.node.state ≠ .run) : s.halted = s := if_neg h

/-- R208: a broadcast that a list with room takes. -/
theorem State.holdBroadcast_of_room {s : State} (b : Broadcast) (h : s.node.heldBc.length < 4) : ∃ n,
    s.holdBroadcast b = (s.withNode { s.node with heldBc := s.node.heldBc ++ [{ what := b, after := n }] }).interruptPark :=
  ⟨_, if_pos h⟩

theorem State.holdBroadcast_of_full {s : State} (b : Broadcast) (h : 4 ≤ s.node.heldBc.length) : s.holdBroadcast b = s :=
  if_neg (Nat.not_lt.mpr h)

theorem State.interruptPark_of_settled {s : State} (h : s.node.park = .settled) : s.interruptPark = s.beginWake := by
  unfold State.interruptPark
  rw [h]

theorem State.interruptPark_of_entering {s : State} (h : s.node.park = .entering) :
    s.interruptPark = s.withNode { s.node with interrupted := true } := by
  unfold State.interruptPark
  rw [h]

theorem State.interruptPark_of_other {s : State} (h1 : s.node.park ≠ .settled) (h2 : s.node.park ≠ .entering) :
    s.interruptPark = s := by
  unfold State.interruptPark
  split <;> simp_all

/-- R208: an interruption changes the park state, the timers and the supply. -/
theorem State.interruptPark_stands (s : State) : s.interruptPark.pub = s.pub ∧ s.interruptPark.line = s.line
    ∧ s.interruptPark.node.state = s.node.state ∧ s.interruptPark.node.heldBc = s.node.heldBc := by
  unfold State.interruptPark
  split <;> exact ⟨rfl, rfl, rfl, rfl⟩

/-- R208: a broadcast held by a PARKED node, in the words of the statements. -/
theorem State.broadcastHeld_holdBroadcast {s : State} (b : Broadcast) (hp : s.node.state = .parked) :
    s.broadcastHeld b (s.dropHeld.holdBroadcast b) := by
  rcases Nat.lt_or_ge s.node.heldBc.length 4 with hlen | hlen
  · obtain ⟨n, hact⟩ := State.holdBroadcast_of_room (s := s.dropHeld) b hlen
    let v := s.dropHeld.withNode { s.node with heldBc := s.node.heldBc ++ [{ what := b, after := n }] }
    rw [show s.dropHeld.holdBroadcast b = v.interruptPark from hact]
    obtain ⟨-, -, hstate, hheld⟩ := v.interruptPark_stands
    refine ⟨hstate.trans hp, fun _ => ⟨?_, fun hk => ?_, fun hk => ?_, fun hk => ?_⟩, fun h => absurd hlen (Nat.not_lt.mpr h)⟩
    · exact (congrArg (List.map HeldBroadcast.what) hheld).trans (List.map_append (l₁ := s.node.heldBc))
    · rw [State.interruptPark_of_settled (s := v) hk]
      exact ⟨rfl, rfl, rfl⟩
    · rw [State.interruptPark_of_entering (s := v) hk]
      exact ⟨hk, rfl⟩
    · rw [State.interruptPark_of_other (s := v) (by rw [show v.node.park = .waking from hk]; decide)
        (by rw [show v.node.park = .waking from hk]; decide)]
      exact ⟨hk, rfl⟩
  · rw [State.holdBroadcast_of_full (s := s.dropHeld) b hlen]
    exact ⟨hp, fun h => absurd hlen (Nat.not_le.mpr h), fun _ => rfl⟩

theorem State.holdBroadcast_pub (b : Broadcast) (s : State) : (s.holdBroadcast b).pub = s.pub := by
  unfold State.holdBroadcast
  split
  · exact (State.interruptPark_stands _).1
  · rfl

theorem State.holdBroadcast_line (b : Broadcast) (s : State) : (s.holdBroadcast b).line = s.line := by
  unfold State.holdBroadcast
  split
  · exact (State.interruptPark_stands _).2.1
  · rfl

theorem State.takeBroadcast_of_parked {s : State} (b : Broadcast) (h : s.node.state = .parked) :
    s.takeBroadcast b = s.holdBroadcast b := if_pos h

theorem State.takeBroadcast_of_awake {s : State} (b : Broadcast) (h : s.node.state ≠ .parked) :
    s.takeBroadcast b = s.actBroadcast b := if_neg h

/-- A broadcast that a PARKED node holds leaves no change signal. -/
theorem handled_broadcast_of_parked {s : State} {row : Instr} {f : RxFrame} (b : Broadcast) (h : s.heads row f)
    (hs : s.settled) (hp : s.node.state = .parked) :
    handled row (fun _ s => s.takeBroadcast b) s = .next (s.dropHeld.holdBroadcast b) := by
  have hact : s.dropHeld.takeBroadcast b = s.dropHeld.holdBroadcast b := State.takeBroadcast_of_parked b hp
  rw [handled_unsignalled h hs (by rw [hact]; exact State.holdBroadcast_pub b _), hact]

theorem State.holdBroadcast_hold (b : Broadcast) (s : State) :
    (s.dropHeld.holdBroadcast b).line.hold = s.line.hold.tail := by
  rw [State.holdBroadcast_line]
  rfl

/-- A broadcast that changes nothing in the state of the node. -/
theorem handled_broadcast_of_idle {s : State} {row : Instr} {f : RxFrame} {b : Broadcast} (h : s.heads row f)
    (hs : s.settled) (hidle : s.dropHeld.takeBroadcast b = s.dropHeld) :
    handled row (fun _ s => s.takeBroadcast b) s = .next s.dropHeld := by
  rw [handled_unsignalled h hs (by rw [hidle]; rfl), hidle]

/-- R175: START taken by a node that is not READY and not PARKED. -/
theorem State.takeBroadcast_start_of_idle {s : State} (hr : s.node.state ≠ .ready) (hp : s.node.state ≠ .parked) :
    s.takeBroadcast .start = s := (State.takeBroadcast_of_awake .start hp).trans (State.started_of_other hr)

theorem State.takeBroadcast_halt_of_idle {s : State} (hr : s.node.state ≠ .run) (hp : s.node.state ≠ .parked) :
    s.takeBroadcast .halt = s := (State.takeBroadcast_of_awake .halt hp).trans (State.halted_of_other hr)

/-- R174, R175: what a HALT in RUN does. -/
theorem State.abortAll_halts {s : State} (hnodup : (s.req.table.map ReqEntry.id).Nodup) :
    s.drv.wentToHold s.node.setup.brakeSet s.abortAll.finish.drv ∧ s.abortAll.finish.drv.source = none
      ∧ s.abortAll.finish.drv.tool = .held ∧ s.tableEmptied s.abortAll.finish := by
  have hempty := State.abortAll_tableEmptied hnodup
  obtain ⟨hhold, hsource, htool⟩ := s.stopped_drv
  rw [← State.abortAll_drv] at hhold hsource htool
  rw [State.finish_drv]
  exact ⟨hhold, hsource, htool, hempty.queues (State.finish_table _) (State.finish_op _) (State.Queues.finished _)⟩

/-- Settles O46: by the node state, with the broadcast held while PARKED. -/
theorem startAndHaltActByNodeState : Obligations.StartAndHaltActByNodeState := by
  unfold Obligations.StartAndHaltActByNodeState
  rintro s f ⟨hbounded, hs⟩
  refine ⟨fun hh => ?_, fun hh => ?_⟩
  · by_cases hp : s.node.state = .parked
    · have hexec : exec .start s = .next (s.dropHeld.holdBroadcast .start) := handled_broadcast_of_parked .start hh hs hp
      exact ⟨_, hexec, State.holdBroadcast_hold _ s, fun hr => absurd (hp.symm.trans hr) (by decide),
        fun _ => State.broadcastHeld_holdBroadcast .start hp, fun _ h => absurd hp h⟩
    by_cases hr : s.node.state = .ready
    · let u := s.dropHeld.setNodeState .run
      have hact : s.dropHeld.takeBroadcast .start = u :=
        (State.takeBroadcast_of_awake (s := s.dropHeld) .start hp).trans (State.started_of_ready hr)
      have hexec : exec .start s = .next u.finish := by
        rw [← hact]
        exact handled_of_heads (fun _ s => s.takeBroadcast .start) hh
      refine ⟨_, hexec, ?_, fun _ => ?_, fun h => absurd h hp, fun h => absurd hr h⟩
      · obtain ⟨-, -, hhold, -⟩ := u.finish_rx
        rw [hhold, State.setNodeState_line]
        rfl
      · rw [State.finish_node, State.setNodeState_state]
    · have hexec : exec .start s = .next s.dropHeld :=
        handled_broadcast_of_idle hh hs (State.takeBroadcast_start_of_idle (s := s.dropHeld) hr hp)
      exact ⟨_, hexec, rfl, fun h => absurd h hr, fun h => absurd h hp, fun _ _ => rfl⟩
  · by_cases hp : s.node.state = .parked
    · have hexec : exec .halt s = .next (s.dropHeld.holdBroadcast .halt) := handled_broadcast_of_parked .halt hh hs hp
      have hheld := State.broadcastHeld_holdBroadcast .halt hp
      exact ⟨_, hexec, State.holdBroadcast_hold _ s, hheld.1.trans hp.symm,
        fun hr => absurd (hp.symm.trans hr) (by decide), fun _ => hheld, fun _ h => absurd hp h⟩
    by_cases hr : s.node.state = .run
    · have hact : s.dropHeld.takeBroadcast .halt = s.dropHeld.abortAll :=
        (State.takeBroadcast_of_awake (s := s.dropHeld) .halt hp).trans (State.halted_of_run hr)
      have hexec : exec .halt s = .next s.dropHeld.abortAll.finish := by
        rw [← hact]
        exact handled_of_heads (fun _ s => s.takeBroadcast .halt) hh
      have hvia := s.dropHeld.abortAll_via
      obtain ⟨hhold, hsource, htool, hempty⟩ := State.abortAll_halts (s := s.dropHeld) hbounded.2.1.2.1
      refine ⟨_, hexec, ?_, ?_, fun _ => ⟨hhold, hsource, htool, hempty⟩, fun h => absurd h hp, fun h => absurd hr h⟩
      · obtain ⟨-, -, hheld, -⟩ := (hvia.mono (qs := Part.ending) (by decide)).trans
          (State.via_finish (State.via_refl _ _) (by decide) (by decide)) |>.same .rx (by decide)
        exact hheld
      · rw [State.finish_node, hvia.same .node (by decide)]
        rfl
    · have hexec : exec .halt s = .next s.dropHeld :=
        handled_broadcast_of_idle hh hs (State.takeBroadcast_halt_of_idle (s := s.dropHeld) hr hp)
      exact ⟨_, hexec, rfl, rfl, fun h => absurd h hr, fun h => absurd h hp, fun _ _ => rfl⟩

/-! ### A commit (R202) -/

/-- R202: Node Control and the aux windows at their committed values. -/
def State.commitNode (s : State) : State :=
  (s.withNode { s.node with setup := committedSetup s.node.items, committed := true, failure := none }).withReq
    { s.req with aux1 := committedAux s.node.items 1, aux2 := committedAux s.node.items 2 }

/-- R202: the state in which the blocks have taken the committed values. -/
def State.committing (s : State) : State :=
  let taken := (s.commitNode.commitTracker).commitLocks
  taken.withPeers (taken.peers.map (Peer.judgedLost taken.node.setup.lostMult))

/-- R17, R142, R159, R202: what follows before the change of node state. -/
def State.commitShared (s : State) : State :=
  let shared := s.committing.commitRezero.recompute
  if shared.node.setup.pubPeriod ≠ s.node.setup.pubPeriod then shared.startPeriodic else shared

theorem State.commitSucceeds_eq (s : State) : s.commitSucceeds
    = s.commitShared.setNodeState (if s.commitShared.sens.stopLine then .stopped else .ready) := by
  unfold State.commitSucceeds State.commitShared State.committing State.commitNode
  rfl

theorem State.commitTracker_via (s : State) : s.via [.trk] s.commitTracker := by simp

theorem State.commitLocks_via (s : State) : s.via [.locks] s.commitLocks := by simp

theorem State.committing_node (s : State) : s.committing.node
    = { s.node with setup := committedSetup s.node.items, committed := true, failure := none } := by
  unfold State.committing
  dsimp only
  rw [State.withPeers_node, (State.commitLocks_via _).same .node (by decide),
    (State.commitTracker_via _).same .node (by decide)]
  rfl

theorem State.committing_sens (s : State) : s.committing.sens = s.sens := by
  unfold State.committing
  dsimp only
  rw [State.withPeers_sens, (State.commitLocks_via _).same .sens (by decide),
    (State.commitTracker_via _).same .sens (by decide)]
  rfl

/-- R1, R3, R22: the tracker of a winch node. -/
theorem State.committing_trk {s : State} (h : s.role = some .winch) : s.committing.trk
    = { s.trk with joints := (committedSetup s.node.items).joints.map (fun _ => JointRec.closed), stack := [], residue := 0,
                   ropeOffset := (committedSetup s.node.items).ropeOffset,
                   datumOffset := (committedSetup s.node.items).datumOffset } := by
  unfold State.committing
  dsimp only
  rw [State.withPeers_trk, (State.commitLocks_via _).same .trk (by decide)]
  exact congrArg State.trk (if_pos h)

theorem State.commitLocks_locks {s : State} (h : s.role = some .rotary) : s.commitLocks.locks
    = { s.locks with records := s.node.setup.joints.map (fun _ => none),
                     pocketCounts := s.node.setup.joints.map JointGeom.pockets, known := false } :=
  congrArg State.locks (if_pos h)

/-- R26, R27, R28: the monitor of a rotary node. -/
theorem State.committing_locks {s : State} (h : s.role = some .rotary) : s.committing.locks
    = { s.locks with records := (committedSetup s.node.items).joints.map (fun _ => none),
                     pocketCounts := (committedSetup s.node.items).joints.map JointGeom.pockets, known := false } := by
  unfold State.committing
  dsimp only
  rw [State.withPeers_locks, State.commitLocks_locks (s := s.commitNode.commitTracker)
      ((State.via_role (State.commitTracker_via _) (by decide)).trans h),
    (State.commitTracker_via _).same .locks (by decide), (State.commitTracker_via _).same .node (by decide)]
  rfl

theorem State.commitShared_via (s : State) :
    s.committing.commitRezero.via [.node, .share, .pub] s.commitShared := by
  unfold State.commitShared
  dsimp only
  have hshared : s.committing.commitRezero.via [.node, .share, .pub] s.committing.commitRezero.recompute := by simp
  split
  · exact State.via_startPeriodic hshared (by decide)
  · exact hshared

theorem State.commitRezero_via (s : State) : s.via [.pub, .trk] s.commitRezero := by simp

/-- R17: a re-zero keeps what the commit gave of the picture. -/
theorem State.commitRezero_trk (s : State) : s.commitRezero.trk = s.trk ∨ s.commitRezero.trk = s.rezeroUnknown.trk := by
  unfold State.commitRezero
  split
  · exact .inr rfl
  · exact .inl rfl

theorem State.judgeGuard_setupError (s : State) : s.judgeGuard.node.faults.setupError = s.node.faults.setupError := by
  unfold State.judgeGuard
  dsimp only
  split
  · rw [State.signal_node, State.setFault_node]
    rfl
  split
  · rw [State.signal_node, State.clearFault_node]
    rfl
  · rfl

theorem State.recompute_setupError (s : State) : s.recompute.node.faults.setupError = s.node.faults.setupError :=
  State.judgeGuard_setupError _

theorem State.commitShared_setupError (s : State) : s.commitShared.node.faults.setupError = s.node.faults.setupError := by
  have hrezero : s.committing.commitRezero.node = s.committing.node :=
    (State.commitRezero_via _).same .node (by decide)
  have hrec : s.committing.commitRezero.recompute.node.faults.setupError = s.node.faults.setupError := by
    rw [State.recompute_setupError, hrezero, State.committing_node]
  unfold State.commitShared
  dsimp only
  split
  · exact hrec
  · exact hrec

/-- R202: Node Control after a successful commit. -/
theorem State.commitSucceeds_node (s : State) :
    s.commitSucceeds.node.items = s.node.items ∧ s.commitSucceeds.node.committed = true
      ∧ s.commitSucceeds.node.failure = none ∧ s.commitSucceeds.node.setup = committedSetup s.node.items
      ∧ s.commitSucceeds.node.state = (if s.sens.stopLine then .stopped else .ready)
      ∧ s.commitSucceeds.node.faults.setupError = s.node.faults.setupError := by
  have hshared := ((State.commitRezero_via s.committing).mono (qs := [.trk, .node, .share, .pub]) (by decide)).trans
    (s.commitShared_via.mono (by decide))
  obtain ⟨hsetup, hitems, -, hcommitted, hfailure⟩ := hshared.same .setup (by decide)
  rw [s.committing_node] at hsetup hitems hcommitted hfailure
  have hsens : s.commitShared.sens = s.sens := (hshared.same .sens (by decide)).trans s.committing_sens
  rw [State.commitSucceeds_eq, State.setNodeState_node, hsens]
  exact ⟨hitems, hcommitted, hfailure, hsetup, rfl, s.commitShared_setupError⟩

theorem State.commitSucceeds_via (s : State) : s.committing.commitRezero.via (.share :: Part.nodeChange) s.commitSucceeds := by
  rw [State.commitSucceeds_eq]
  exact (s.commitShared_via.mono (by decide)).trans ((s.commitShared.setNodeState_via _).mono (by decide))

theorem State.commitSucceeds_trk {s : State} (h : s.role = some .winch) :
    s.commitSucceeds.trk.joints = (committedSetup s.node.items).joints.map (fun _ => JointRec.closed)
      ∧ s.commitSucceeds.trk.stack = [] ∧ s.commitSucceeds.trk.residue = 0
      ∧ s.commitSucceeds.trk.datumOffset = (committedSetup s.node.items).datumOffset := by
  have htaken := State.committing_trk h
  rw [show s.commitSucceeds.trk = s.committing.commitRezero.trk from s.commitSucceeds_via.same .trk (by decide)]
  rcases s.committing.commitRezero_trk with hk | hk
  · rw [hk, htaken]
    exact ⟨rfl, rfl, rfl, rfl⟩
  · have hjoints : s.committing.trk.joints.map (fun _ => JointRec.closed)
        = (committedSetup s.node.items).joints.map (fun _ => JointRec.closed) := by
      rw [htaken]
      simp
    rw [hk, State.rezeroUnknown_trk]
    split
    · exact ⟨hjoints, rfl, rfl, congrArg Tracker.datumOffset htaken⟩
    · exact ⟨hjoints, rfl, rfl, congrArg Tracker.datumOffset htaken⟩

theorem State.commitSucceeds_locks {s : State} (h : s.role = some .rotary) :
    s.commitSucceeds.locks.records = (committedSetup s.node.items).joints.map (fun _ => none)
      ∧ s.commitSucceeds.locks.known = false
      ∧ s.commitSucceeds.locks.pocketCounts = (committedSetup s.node.items).joints.map JointGeom.pockets := by
  rw [show s.commitSucceeds.locks = s.committing.commitRezero.locks from s.commitSucceeds_via.same .locks (by decide),
    (State.commitRezero_via _).same .locks (by decide), State.committing_locks h]
  exact ⟨rfl, rfl, rfl⟩

theorem State.takeItem_commits {s : State} (h : s.node.state = .setup) {r : ItemRecord} (hcode : r.code = 0x7F)
    (hindex : r.index = 0) :
    s.takeItem r = (s.withNode { s.node with items := storeItem (0x7F, 0) r.value s.node.items }).commit := by
  rw [State.takeItem, if_neg (not_not.mpr h), if_pos (by rw [hcode, hindex]; rfl), hcode, hindex]
  exact if_pos rfl

/-- R202: the faults do not enter the four passes. -/
theorem commitFailure_clearFault (s : State) : commitFailure (s.clearFault .setupError).node = commitFailure s.node := by
  rw [State.clearFault_node]
  rfl

theorem State.commit_of_success {s : State} (h : commitFailure s.node = none) :
    s.commit = (s.clearFault .setupError).commitSucceeds := by
  unfold State.commit
  dsimp only
  rw [commitFailure_clearFault, h]

theorem State.commit_of_failure {s : State} {x : SetupFailure} (h : commitFailure s.node = some x) :
    s.commit = (s.clearFault .setupError).commitFails x := by
  unfold State.commit
  dsimp only
  rw [commitFailure_clearFault, h]

theorem State.commitFails_node (x : SetupFailure) (s : State) :
    (s.commitFails x).node = { s.node with failure := some x, faults := s.node.faults.put .setupError true } := by
  rw [State.commitFails, State.setFault_node]
  rfl

/-- Settles O45: the one record stores COMMIT's own value, and the verdict decides. -/
theorem commitPutsTheItemsInForceOrFails : Obligations.CommitPutsTheItemsInForceOrFails := by
  unfold Obligations.CommitPutsTheItemsInForceOrFails
  intro s f r hh hrs hcode hindex hstate
  let w := s.dropHeld.withNode
    { s.dropHeld.node with items := storeItem (0x7F, 0) r.value s.dropHeld.node.items }
  let u := w.clearFault .setupError
  have hact : s.dropHeld.takeSetupFrame f = w.commit := by
    rw [State.takeSetupFrame_of_records hrs, List.foldl_cons, List.foldl_nil]
    exact State.takeItem_commits (s := s.dropHeld) hstate hcode hindex
  have hexec : exec .setupHandled s = .next w.commit.finish := by
    rw [← hact]
    exact handled_of_heads State.takeSetupFrame hh
  have hu : u.node = { w.node with faults := w.node.faults.put .setupError false } := State.clearFault_node _ w
  cases hverdict : commitFailure { s.node with items := storeItem (0x7F, 0) r.value s.node.items } with
  | none =>
    have hcommit : w.commit = u.commitSucceeds := State.commit_of_success (s := w) hverdict
    have hclear : w.via [.node, .pub] u := by simp [u]
    have hrole : u.role = w.role := State.via_role hclear (by decide)
    have hsens : u.sens = s.sens := State.clearFault_sens _ w
    obtain ⟨hitems, hcommitted, hfailure, hsetup, hst, hfault⟩ := u.commitSucceeds_node
    rw [hu] at hitems hsetup hfault
    refine ⟨_, hexec, ?_, fun _ => ⟨?_, ?_, ?_, ?_, ?_, fun hr => ?_, fun hr => ?_⟩,
      fun x hx => absurd (hverdict.symm.trans hx) (Option.some_ne_none x).symm⟩
    all_goals rw [hcommit, State.finish_node]
    · exact hitems
    · rw [hst, hsens]
    · exact hcommitted
    · exact hfailure
    · exact hsetup
    · exact hfault
    · obtain ⟨hjoints, hstack, hres, hdatum⟩ := State.commitSucceeds_trk (hrole.trans hr)
      rw [State.finish_trk, hsetup]
      rw [hu] at hjoints hdatum
      exact ⟨hjoints, hstack, hres, hdatum⟩
    · obtain ⟨hrecords, hknown, hpockets⟩ := State.commitSucceeds_locks (hrole.trans hr)
      rw [State.finish_locks, hsetup]
      rw [hu] at hrecords hpockets
      exact ⟨hrecords, hknown, hpockets⟩
  | some x =>
    have hcommit : w.commit = u.commitFails x := State.commit_of_failure (s := w) hverdict
    have hnode : w.commit.finish.node
        = { u.node with failure := some x, faults := u.node.faults.put .setupError true } := by
      rw [State.finish_node, hcommit, State.commitFails_node]
    rw [hu] at hnode
    refine ⟨_, hexec, by rw [hnode]; rfl, fun h => absurd (hverdict.symm.trans h) (Option.some_ne_none x), fun y hy => ?_⟩
    obtain rfl := Option.some.inj (hverdict.symm.trans hy)
    rw [hnode]
    exact ⟨hstate, rfl, rfl, rfl, rfl⟩

/-! ### What an entry hands on to the tracker (R6, R10, R12, R14, R17) -/

section
variable {ps : List Part} {s t : State}

theorem State.via_bothGood (h : s.via ps t) (hstraps : Part.straps ∉ ps) (hpeers : Part.peers ∉ ps) :
    t.bothGood = s.bothGood := by
  unfold State.bothGood State.crowdGood State.rotaryGood
  rw [State.via_mirror h hstraps hpeers, State.via_mirror h hstraps hpeers]

theorem State.via_strokeAvailable (h : s.via ps t) (hstraps : Part.straps ∉ ps) (hpeers : Part.peers ∉ ps) :
    t.strokeAvailable = s.strokeAvailable := by
  unfold State.strokeAvailable
  rw [State.via_mirror h hstraps hpeers]

theorem State.via_freeInMirror (h : s.via ps t) (hstraps : Part.straps ∉ ps) (hpeers : Part.peers ∉ ps) :
    t.freeInMirror = s.freeInMirror := by
  funext j
  unfold State.freeInMirror State.lockMirror
  rw [State.via_mirror h hstraps hpeers]

theorem FaultSet.has_put (f : FaultSet) (k : FaultKind) : (f.put k true).has k = true := by
  cases k <;> rfl

theorem StopPull.pulls_put_slipKind (p : StopPull) (slide : Nat → Nat) (c : Int) (after : Tracker) :
    (p.put (slipKind slide c after) true).pulls = true := by
  unfold slipKind
  split <;> simp [StopPull.put, StopPull.pulls]

/-! The tracker by its state and the mirrors. -/

theorem State.trackMirrors_of_tracking (before : State) (h : s.trk.state = .tracking) :
    State.trackMirrors before s = if s.bothGood then s.trackChange (s.E - before.E) else s.suspend before.E := by
  unfold State.trackMirrors
  rw [h]

theorem State.trackMirrors_of_suspended (before : State) (h : s.trk.state = .suspended) :
    State.trackMirrors before s = if s.bothGood then s.resume else s := by
  unfold State.trackMirrors
  rw [h]

theorem State.trackMirrors_of_unknown (before : State) (h : s.trk.state = .unknown) :
    State.trackMirrors before s
      = if !before.strokeAvailable && s.strokeAvailable && s.sens.home && decide (s.trk.joints ≠ []) then s.rezeroUnknown
        else s := by
  unfold State.trackMirrors
  rw [h]

theorem State.resume_trk (s : State) : s.resume.trk =
    if (s.E - s.trk.es).natAbs ≤ s.node.setup.slipTol ∧ (s.trk.residue + (s.E - s.trk.es)).natAbs ≤ s.node.setup.slipTol
    then { s.trk with residue := s.trk.residue + (s.E - s.trk.es), state := .tracking }
    else { s.trk.cleared with state := .unknown : Tracker }.write .trackingLost (s.E - s.trk.es) := by
  unfold State.resume
  dsimp only
  split <;> rfl

end

/-- The state `j`, in which the tracker takes the mirrors, has of `s` all that the tracker reads but the mirrors. -/
structure State.BeforeTracker (s j : State) : Prop where
  trk : j.trk = s.trk
  sens : j.sens = s.sens
  setup : j.node.setup = s.node.setup

/-- The state `t` keeps of `u` what the tracker left, and reads the mirrors as `j` does. -/
structure State.AfterTracker (j u t : State) : Prop where
  trk : t.trk = u.trk
  node : t.node = u.node
  good : t.bothGood = j.bothGood
  stroke : t.strokeInUse = j.strokeInUse
  available : t.strokeAvailable = j.strokeAvailable
  free : t.freeInMirror = j.freeInMirror

section
variable {s j t : State}

theorem State.BeforeTracker.E_sub (h : s.BeforeTracker j) : j.E - s.E = s.strokeInUse - j.strokeInUse := by
  rw [State.E, State.E, h.trk, h.sens]
  omega

theorem State.BeforeTracker.gap (h : s.BeforeTracker j) :
    j.E - j.trk.es = s.sens.payout - j.strokeInUse - s.trk.ropeOffset - s.trk.es := by
  rw [State.E, h.trk, h.sens]

/-- R10, R11: the change of the stroke would pass SLIP_TOL. -/
theorem State.trackMirrors_slips (hj : s.BeforeTracker j) (hk : s.trk.state = .tracking) (hgood : j.bothGood = true)
    (hslip : s.node.setup.slipTol
      < (s.trk.attribute (fun k => (s.geom k).slide) j.freeInMirror (s.strokeInUse - j.strokeInUse)).residue.natAbs) :
    let kind := slipKind (fun k => (s.geom k).slide) (s.strokeInUse - j.strokeInUse)
      (s.trk.attribute (fun k => (s.geom k).slide) j.freeInMirror (s.strokeInUse - j.strokeInUse))
    (State.trackMirrors s j).trk = { s.trk.cleared with state := .unknown, leftBy := some kind }
      ∧ (State.trackMirrors s j).node
        = { j.node with faults := j.node.faults.put kind true, pull := j.node.pull.put kind true } := by
  have hgeom : (fun k => (j.geom k).slide) = fun k => (s.geom k).slide := by
    unfold State.geom
    rw [hj.setup]
  rw [← hgeom, ← hj.trk, ← hj.setup] at hslip
  rw [State.trackMirrors_of_tracking s (by rw [hj.trk]; exact hk), if_pos hgood, hj.E_sub, State.trackChange_of_slip hslip,
    State.trackerFault_trk, State.trackerFault_node, hgeom, hj.trk]
  exact ⟨rfl, rfl⟩

/-- R6, R10, R12, R14, R17: so in the words of the statements. -/
theorem State.trackerHandedOn_of_trackMirrors (hj : s.BeforeTracker j) (ht : State.AfterTracker j (State.trackMirrors s j) t) :
    s.trackerHandedOn t := by
  have hslide : j.node.setup.slide = s.node.setup.slide := by rw [hj.setup]
  have hchange := j.trackChange_trk (s.strokeInUse - j.strokeInUse)
  rw [hj.trk, hj.setup] at hchange
  unfold State.trackerHandedOn
  dsimp only
  rw [ht.good, ht.stroke, ht.available, ht.free, ht.trk]
  refine ⟨fun hk hgood => ?_, fun hk hgood hres => ?_, fun hk hgood hslip => ?_, fun hk hgood hin => ?_,
    fun hk hgood hout => ?_, fun hk hgood => ?_, fun hk hcomes => ?_, fun hk hnot => ?_⟩
  · rw [State.trackMirrors_of_tracking s (by rw [hj.trk]; exact hk), if_neg (by rw [hgood]; decide), ← hj.trk]
    rfl
  · rw [State.trackMirrors_of_tracking s (by rw [hj.trk]; exact hk), if_pos hgood, hj.E_sub, hchange]
    exact if_pos hres
  · obtain ⟨htrk, hnode⟩ := State.trackMirrors_slips hj hk hgood hslip
    rw [htrk, ht.node, State.drivesStopLine, ht.node, hnode, ← hj.trk]
    exact ⟨⟨rfl, rfl, rfl, rfl⟩, rfl, FaultSet.has_put _ _, StopPull.pulls_put_slipKind _ _ _ _⟩
  · have hin' := hin
    rw [← hj.gap, ← hj.trk, ← hj.setup] at hin'
    rw [State.trackMirrors_of_suspended s (by rw [hj.trk]; exact hk), if_pos hgood, State.resume_trk, if_pos hin', hj.gap,
      hj.trk]
  · have hout' := hout
    rw [← hj.gap, ← hj.trk, ← hj.setup] at hout'
    rw [State.trackMirrors_of_suspended s (by rw [hj.trk]; exact hk), if_pos hgood, State.resume_trk, if_neg hout', hj.gap,
      hj.trk]
    exact ⟨⟨rfl, rfl, rfl, rfl⟩, rfl⟩
  · rw [State.trackMirrors_of_suspended s (by rw [hj.trk]; exact hk), if_neg (by rw [hgood]; decide), hj.trk]
  · obtain ⟨hwas, his, hhome, hjoints⟩ := hcomes
    rw [State.trackMirrors_of_unknown s (by rw [hj.trk]; exact hk), if_pos (by simp [hwas, his, hj.sens, hhome, hj.trk, hjoints]),
      State.rezeroUnknown_trk, State.rezeroed, hj.trk, hj.sens]
    split <;> exact ⟨rfl, rfl, rfl, rfl, rfl⟩
  · rw [State.trackMirrors_of_unknown s (by rw [hj.trk]; exact hk), if_neg, hj.trk]
    intro hcomes
    refine hnot ?_
    simpa [hj.sens, hj.trk, and_assoc] using hcomes

end

/-! ### An entry handed on (R151) -/

/-- R142, R154: the sharing recomputed and the role compared. -/
def State.judged (accepted : Option Nat) (s : State) : State := (s.recompute).compareRole accepted

theorem State.judged_via (accepted : Option Nat) (s : State) : s.via (.share :: Part.nodeChange) (s.judged accepted) := by
  unfold State.judged
  simp (maxDischargeDepth := 10) [Part.nodeChange, Part.ending, Part.publication]

theorem State.recompute_via (s : State) : s.via [.node, .pub, .share] s.recompute := by simp

section
variable {before s : State} {accepted : Option Nat}

/-- R112, R113, R95, R56: what follows the tracker. -/
theorem State.handOn_eq (before s : State) (accepted : Option Nat) : State.handOn before accepted s
    = State.opHandOn before accepted ((State.trackerTakes before (s.judged accepted)).judgeWithheld.judgeTool) := rfl

theorem State.handOn_via_trackerTakes (before s : State) (accepted : Option Nat) :
    (State.trackerTakes before (s.judged accepted)).via (.locks :: Part.ending) (State.handOn before accepted s).finish := by
  rw [State.handOn_eq]
  have h : (State.trackerTakes before (s.judged accepted)).via (.locks :: Part.ending) (State.opHandOn before accepted
      ((State.trackerTakes before (s.judged accepted)).judgeWithheld.judgeTool)) := by
    simp (maxDischargeDepth := 10) [Part.ending, Part.publication]
  exact State.via_finish h (by decide) (by decide)

theorem State.handOn_via_judged (before s : State) (accepted : Option Nat) :
    (s.judged accepted).via ([.node, .trk, .locks] ++ Part.ending) (State.handOn before accepted s).finish := by
  have htaken : (s.judged accepted).via ([.node, .trk] ++ Part.ending) (State.trackerTakes before (s.judged accepted)) := by
    simp (maxDischargeDepth := 10) [Part.ending, Part.publication]
  exact (htaken.mono (by decide)).trans ((State.handOn_via_trackerTakes before s accepted).mono (by decide))

theorem State.trackerTakes_of_winch (before : State) (h : s.role = some .winch) :
    State.trackerTakes before s
      = State.winchHandOn before false (State.trackLossNoted before (State.trackMirrors before s)) := if_pos h

/-- R151: what the tracker of a winch node left stands at the end of the event. -/
theorem State.handOn_afterTracker (before : State) (hr : s.role = some .winch) :
    State.AfterTracker (s.judged accepted) (State.trackMirrors before (s.judged accepted))
      (State.handOn before accepted s).finish := by
  have hrole : (s.judged accepted).role = some .winch := (State.via_role (s.judged_via accepted) (by decide)).trans hr
  have hafter := State.handOn_via_trackerTakes before s accepted
  have hreads := State.handOn_via_judged before s accepted
  rw [State.trackerTakes_of_winch before hrole] at hafter
  have htaken : (State.trackMirrors before (s.judged accepted)).via Part.ending (State.winchHandOn before false
      (State.trackLossNoted before (State.trackMirrors before (s.judged accepted)))) := by
    simp (maxDischargeDepth := 10) [Part.ending, Part.publication]
  have hend := (htaken.mono (qs := .locks :: Part.ending) (by decide)).trans hafter
  exact ⟨hend.same .trk (by decide), hend.same .node (by decide), State.via_bothGood hreads (by decide) (by decide),
    State.via_strokeInUse hreads (by decide) (by decide), State.via_strokeAvailable hreads (by decide) (by decide),
    State.via_freeInMirror hreads (by decide) (by decide)⟩

theorem State.judged_beforeTracker (s : State) (accepted : Option Nat) : s.BeforeTracker (s.judged accepted) :=
  ⟨(s.judged_via accepted).same .trk (by decide), (s.judged_via accepted).same .sens (by decide),
    ((s.judged_via accepted).same .setup (by decide)).1⟩

/-! ### Without an operation (R112, R113) -/

theorem State.unpark_op (s : State) : s.unpark.op = s.op := rfl

theorem State.enterFault_op (s : State) : s.enterFault.op = none := by
  have hdisplaced : (s.faultDrive.displaceOp .failed .ownerFault).op = none := by
    unfold State.displaceOp
    split
    · assumption
    · exact State.closeOp_op _ _ _ _
  have hrefused : ∀ u : State, u.refuseHeld.op = u.op := fun u =>
    (show u.via [.line, .req] u.refuseHeld by simp).same .op (by decide)
  unfold State.enterFault
  dsimp only
  rw [State.setNodeState_op]
  split
  · rw [State.withNode_op, State.unpark_op, hrefused]
    exact hdisplaced
  · rw [State.withNode_op]
    exact hdisplaced

theorem State.faultWith_op_none (h : s.op = none) (k : FaultKind) : (s.faultWith k).op = none := by
  unfold State.faultWith
  dsimp only
  split
  · rw [State.setFault_op, h]
  · exact State.enterFault_op _

theorem State.compareRole_op_none (h : s.op = none) (accepted : Option Nat) : (s.compareRole accepted).op = none := by
  unfold State.compareRole
  split
  · split
    · exact State.faultWith_op_none h _
    · exact h
  · exact h

/-- R154: the role comparison moves the drive only where it changes the node state. -/
theorem State.compareRole_drv (accepted : Option Nat) (h : (s.compareRole accepted).node.state = s.node.state) :
    (s.compareRole accepted).drv = s.drv := by
  unfold State.compareRole at *
  split at h
  · split at h
    · next hc =>
      have hfault : s.node.state = .fault := h.symm.trans (State.faultWith_state _ _)
      rw [if_pos hc, State.roleConflict, State.faultWith, if_pos (by rw [State.setFault_node]; exact hfault),
        State.setFault_drv]
    · next hc => rw [if_neg hc]
  · rfl

theorem State.trackChange_op_none (h : s.op = none) (c : Int) : (s.trackChange c).op = none := by
  unfold State.trackChange
  dsimp only
  split
  · rw [State.signalIf_op, State.withTrk_op, h]
  · exact State.trackerFault_op _ _

theorem State.trackMirrors_op_none (h : s.op = none) (before : State) : (State.trackMirrors before s).op = none := by
  have hsuspend : ∀ e, s.via [.pub, .trk] (s.suspend e) := fun e => by simp
  have hresume : s.via [.pub, .trk] s.resume := by simp
  have hrezero : s.via [.pub, .trk] s.rezeroUnknown := by simp
  unfold State.trackMirrors
  split
  · split
    · exact State.trackChange_op_none h _
    · exact ((hsuspend _).same .op (by decide)).trans h
  · split
    · exact (hresume.same .op (by decide)).trans h
    · exact h
  · split
    · exact (hrezero.same .op (by decide)).trans h
    · exact h

theorem State.trackLossNoted_of_op_none (h : s.op = none) (before : State) : State.trackLossNoted before s = s := by
  unfold State.trackLossNoted State.opTrackingLost State.endOp
  rw [h]
  split <;> rfl

theorem State.trackerTakes_op_none (h : s.op = none) (before : State) : (State.trackerTakes before s).op = none := by
  unfold State.trackerTakes
  split
  · have hmirrors := State.trackMirrors_op_none h before
    rw [State.trackLossNoted_of_op_none hmirrors]
    exact State.winchHandOn_op_none hmirrors _ _
  · exact h

theorem State.opHandOn_of_op_none (h : s.op = none) (before : State) (accepted : Option Nat) :
    State.opHandOn before accepted s = s := by
  have hmirrors : State.opMirrors before accepted s = s := by unfold State.opMirrors; rw [h]
  have hstart : ∀ p, s.startSubs p = s := fun p => by unfold State.startSubs; rw [h]
  have hrelease : s.judgeRelease = s := by
    unfold State.judgeRelease State.releaseWaiting
    rw [h]
    rfl
  unfold State.opHandOn
  dsimp only
  rw [hmirrors]
  split
  · rw [hstart, hrelease]
  · exact hrelease

/-! A drive in THRUST is none that the tracker ends. -/

theorem State.checkPay_of_thrust {f : Nat} (h : s.drv.mode = .thrust f) (room : Bool) : s.checkPay room = s := by
  unfold State.checkPay
  rw [h]

theorem State.checkTop_of_thrust {f : Nat} (h : s.drv.mode = .thrust f) : s.checkTop = s := by
  unfold State.checkTop
  rw [h]

theorem State.trackerFault_drv_of_thrust {f : Nat} (hop : s.op = none) (h : s.drv.mode = .thrust f) (k : FaultKind) :
    (s.trackerFault k).drv = s.drv := by
  let u := (s.raiseStop k).withTrk { (s.raiseStop k).trk.cleared with state := .unknown, leftBy := some k }
  have hop' : u.op = none := ((s.raiseStop_via k).same .op (by decide)).trans hop
  have hdrv : u.drv = s.drv := (s.raiseStop_via k).same .drv (by decide)
  have hfault : u.faultOp = u := by unfold State.faultOp; rw [hop']
  change (u.faultOp.checkPay false).drv = s.drv
  rw [hfault, State.checkPay_of_thrust (by rw [hdrv]; exact h), hdrv]

theorem State.trackMirrors_drv_of_thrust {f : Nat} (hop : s.op = none) (h : s.drv.mode = .thrust f) (before : State) :
    (State.trackMirrors before s).drv = s.drv := by
  have hsuspend : ∀ e, s.via [.pub, .trk] (s.suspend e) := fun e => by simp
  have hresume : s.via [.pub, .trk] s.resume := by simp
  have hrezero : s.via [.pub, .trk] s.rezeroUnknown := by simp
  unfold State.trackMirrors
  split
  · split
    · unfold State.trackChange
      dsimp only
      split
      · rw [State.signalIf_drv, State.withTrk_drv]
      · exact State.trackerFault_drv_of_thrust hop h _
    · exact (hsuspend _).same .drv (by decide)
  · split
    · exact hresume.same .drv (by decide)
    · rfl
  · split
    · exact hrezero.same .drv (by decide)
    · rfl

theorem State.trackerTakes_drv_of_thrust {f : Nat} (hop : s.op = none) (h : s.drv.mode = .thrust f) (before : State) :
    (State.trackerTakes before s).drv = s.drv := by
  unfold State.trackerTakes
  split
  · have hdrv := State.trackMirrors_drv_of_thrust hop h before
    have hmode : (State.trackMirrors before s).drv.mode = .thrust f := by rw [hdrv]; exact h
    rw [State.trackLossNoted_of_op_none (State.trackMirrors_op_none hop before), State.winchHandOn,
      State.checkPay_of_thrust hmode]
    split
    · rw [State.checkTop_of_thrust hmode, hdrv]
    · exact hdrv
  · rfl

end

section
variable {before s : State} {accepted : Option Nat}

/-- R113: the judgement of thrust, in the words of the statements. -/
theorem State.judgeWithheld_withheld (s : State) :
    s.judgeWithheld.drv.withheld = (s.drv.thrusting && !s.permission) := by
  rw [State.judgeWithheld, State.setDrv_drv]
  change ((s.drv.thrusting && !s.permission) && s.drv.thrusting) = _
  cases s.drv.thrusting <;> cases s.permission <;> rfl

theorem Drive.SameMotion.thrusting {d e : Drive} (h : d.SameMotion e) : e.thrusting = d.thrusting := by
  unfold Drive.thrusting
  rw [h.mode, h.state]

theorem State.judgeTool_withheld (s : State) (h : s.drv.withheld = true → s.drv.thrusting = true) :
    s.judgeTool.drv.withheld = s.drv.withheld := by
  unfold State.judgeTool
  split
  · rw [State.holdTool, State.setDrv_drv]
    change (s.drv.withheld && s.drv.thrusting) = _
    cases hw : s.drv.withheld
    · rfl
    · exact h hw
  · rfl

theorem State.via_permission {ps : List Part} {t : State} (h : s.via ps t) (hstraps : Part.straps ∉ ps)
    (hpeers : Part.peers ∉ ps) (hmode : Part.mode ∉ ps) : t.permission = s.permission := by
  unfold State.permission
  rw [(h.same .mode hmode).1, State.via_mirror h hstraps hpeers, State.via_mirror h hstraps hpeers]

/-- R112, R113: what the thrust judgement leaves of the drive, without an operation. -/
theorem State.handOn_thrust (hop : s.op = none) (before : State) (accepted : Option Nat) :
    (State.trackerTakes before (s.judged accepted)).drv.SameMotion (State.handOn before accepted s).finish.drv
      ∧ (State.handOn before accepted s).finish.drv.withheld = ((State.handOn before accepted s).finish.drv.thrusting
          && !(State.handOn before accepted s).finish.permission) := by
  have hjudged : (s.judged accepted).op = none :=
    State.compareRole_op_none ((s.recompute_via.same .op (by decide)).trans hop) accepted
  generalize hu : State.trackerTakes before (s.judged accepted) = u
  have huop : u.op = none := hu ▸ State.trackerTakes_op_none hjudged before
  have hend : State.handOn before accepted s = u.judgeWithheld.judgeTool := by
    have hvia : u.via [.drv, .pub] u.judgeWithheld.judgeTool := by simp
    rw [State.handOn_eq, hu]
    exact State.opHandOn_of_op_none ((hvia.same .op (by decide)).trans huop) before accepted
  have hmotion := u.judgeWithheld_motion.1.trans u.judgeWithheld.judgeTool_motion
  have hvia : u.via [.drv, .pub, .line] u.judgeWithheld.judgeTool.finish :=
    State.via_finish (by simp) (by decide) (by decide)
  rw [hend, State.finish_drv]
  refine ⟨hmotion, ?_⟩
  have hwithheld := u.judgeWithheld_withheld
  rw [State.via_permission hvia (by decide) (by decide) (by decide), hmotion.thrusting, State.judgeTool_withheld,
    hwithheld]
  rw [hwithheld, u.judgeWithheld_motion.1.thrusting]
  exact fun h => (Bool.and_eq_true_iff.mp h).1

/-- R154: the node state is that of the role comparison. -/
theorem State.handOn_state (before s : State) (accepted : Option Nat) :
    (State.handOn before accepted s).finish.node.state = (s.judged accepted).node.state :=
  ((State.handOn_via_judged before s accepted).same .mode (by decide)).1

/-- R151: a new Peer Table handed on, in the words of the statements. -/
theorem State.handOn_handedOn (s : State) (peers : List Peer) (accepted : Option Nat) :
    s.handedOn (State.handOn s accepted (s.withPeers peers)).finish := by
  let a := s.withPeers peers
  refine ⟨fun hr => ?_, fun hop => ?_⟩
  · have hj : s.BeforeTracker (a.judged accepted) := by
      obtain ⟨htrk, hsens, hset⟩ := a.judged_beforeTracker accepted
      exact ⟨htrk, hsens, hset⟩
    exact State.trackerHandedOn_of_trackMirrors hj (State.handOn_afterTracker s (s := a) hr)
  · obtain ⟨hmotion, hwithheld⟩ := State.handOn_thrust (s := a) hop s accepted
    refine ⟨hwithheld, fun f hf hstate => ?_⟩
    rw [State.handOn_state] at hstate
    have hrecdrv : a.recompute.drv = s.drv := a.recompute_via.same .drv (by decide)
    have hrecstate : a.recompute.node.state = s.node.state := (a.recompute_via.same .mode (by decide)).1
    have hdrv : (a.judged accepted).drv = s.drv :=
      (State.compareRole_drv accepted (hstate.trans hrecstate.symm)).trans hrecdrv
    have hjop : (a.judged accepted).op = none :=
      State.compareRole_op_none ((a.recompute_via.same .op (by decide)).trans hop) accepted
    rw [State.trackerTakes_drv_of_thrust hjop (by rw [hdrv]; exact hf) s, hdrv] at hmotion
    exact ⟨hmotion.state, hmotion.mode, hmotion.source, hmotion.claim⟩

theorem State.handOn_peers (before s : State) (accepted : Option Nat) :
    (State.handOn before accepted s).finish.peers = s.peers :=
  ((State.handOn_via_judged before s accepted).same .peers (by decide)).trans
    ((s.judged_via accepted).same .peers (by decide))

/-- R142: the sharing recomputed from the new table. -/
theorem State.handOn_share (before s : State) (accepted : Option Nat) :
    (State.handOn before accepted s).finish.share = s.recompute.share := by
  have hcompare : s.recompute.via Part.nodeChange (s.recompute.compareRole accepted) := by
    simp (maxDischargeDepth := 10) [Part.nodeChange, Part.ending, Part.publication]
  exact ((State.handOn_via_judged before s accepted).same .share (by decide)).trans (hcompare.same .share (by decide))

end

/-! ### The role comparison (R154) -/

theorem State.compareRole_of_accepted {s : State} {n : Nat} {p : Peer} (h : entryAt n s.peers = some p) :
    s.compareRole (some n) = if s.conflictsWith p then s.roleConflict else s := by
  unfold State.compareRole
  rw [Option.bind_some, h]

theorem State.conflictsWith_iff {s : State} {p : Peer} : s.conflictsWith p = true ↔
    s.node.state ≠ .listen ∧ s.role = some p.role ∧ p.station < s.station := by
  unfold State.conflictsWith
  rw [Bool.and_eq_true, Bool.and_eq_true, bne_iff_ne, beq_iff_eq, decide_eq_true_iff, and_assoc, eq_comm (a := some p.role)]

/-- R10, R11: the tracker puts the two kinds of a slip alone. -/
theorem State.trackChange_roleConflict (c : Int) (s : State) :
    (s.trackChange c).node.faults.roleConflict = s.node.faults.roleConflict := by
  unfold State.trackChange
  dsimp only
  split
  · rw [State.signalIf_node, State.withTrk_node]
  · rw [State.trackerFault_node]
    unfold slipKind
    split <;> rfl

theorem State.trackMirrors_roleConflict (before s : State) :
    (State.trackMirrors before s).node.faults.roleConflict = s.node.faults.roleConflict := by
  have hnode : ∀ {u : State}, s.via [.pub, .trk] u → u.node.faults.roleConflict = s.node.faults.roleConflict :=
    fun h => by rw [h.same .node (by decide)]
  unfold State.trackMirrors
  split
  · split
    · exact State.trackChange_roleConflict _ s
    · exact hnode (by simp)
  · split
    · exact hnode (by simp)
    · rfl
  · split
    · exact hnode (by simp)
    · rfl

theorem State.trackerTakes_roleConflict (before s : State) :
    (State.trackerTakes before s).node.faults.roleConflict = s.node.faults.roleConflict := by
  unfold State.trackerTakes
  split
  · have hend : (State.trackMirrors before s).via Part.ending (State.winchHandOn before false
        (State.trackLossNoted before (State.trackMirrors before s))) := by
      simp (maxDischargeDepth := 10) [Part.ending, Part.publication]
    rw [hend.same .node (by decide), State.trackMirrors_roleConflict]
  · rfl

theorem State.handOn_roleConflict (before s : State) (accepted : Option Nat) :
    (State.handOn before accepted s).finish.node.faults.roleConflict = (s.judged accepted).node.faults.roleConflict := by
  rw [(State.handOn_via_trackerTakes before s accepted).same .node (by decide), State.trackerTakes_roleConflict]

/-! ### Aging steps and acceptances (R149, R150) -/

theorem exec_agingStep_of_entry {s : State} {n : Nat} (hs : s.settled) (h : s.agingStep n = s) :
    exec (.agingStep n) s = .next s := by
  have hact : exec (.agingStep n) s = .next (s.agingStep n).finish := rfl
  rw [hact, h, State.finish_of_settled hs]

theorem Peer.outgrown_iff {mult : Nat} {p : Peer} : p.outgrown mult = true ↔
    (p.presence = .fresh ∧ 2 * p.period < p.age) ∨ (p.presence = .aged ∧ mult * p.period < p.age) := by
  unfold Peer.outgrown
  cases p.presence <;> simp

theorem State.agingStep_of_not_outgrown {s : State} {n : Nat}
    (h : ∀ p, entryAt n s.peers = some p → p.outgrown s.node.setup.lostMult = false) : s.agingStep n = s := by
  unfold State.agingStep
  split
  · next p hp => rw [if_neg (by rw [h p hp]; decide)]
  · rfl

theorem State.agingStep_of_outgrown {s : State} {n : Nat} {p : Peer} (h : entryAt n s.peers = some p)
    (ho : p.outgrown s.node.setup.lostMult = true) :
    s.agingStep n = State.handOn s none (s.withPeers (putPeer p.aged s.peers)) := by
  unfold State.agingStep
  rw [h]
  exact if_pos ho

theorem Peer.aged_eq (p : Peer) (h : p.presence = .fresh ∨ p.presence = .aged) :
    p.aged = { p with presence := if p.presence = .fresh then .aged else .lost } := by
  unfold Peer.aged
  rcases h with h | h <;> rw [h] <;> rfl

/-- Settles O30: the entry whose age has passed its threshold is lowered and handed on. -/
theorem agingStepsLowerThePresence : Obligations.AgingStepsLowerThePresence := by
  unfold Obligations.AgingStepsLowerThePresence
  intro n s
  refine ⟨fun p hp hpassed => ?_, fun hs hnot => ?_⟩
  · have hout : p.outgrown s.node.setup.lostMult = true := Peer.outgrown_iff.mpr hpassed
    have hstation : p.aged.station = n := (Peer.aged_station p).trans (station_of_entryAt hp)
    let a := s.withPeers (putPeer p.aged s.peers)
    have hexec : exec (.agingStep n) s = .next (State.handOn s none a).finish := by
      have hact : exec (.agingStep n) s = .next (s.agingStep n).finish := rfl
      rw [hact, State.agingStep_of_outgrown hp hout]
    have hpeers : (State.handOn s none a).finish.peers = putPeer p.aged s.peers := State.handOn_peers s a none
    have haged := Peer.aged_eq p (hpassed.imp And.left And.left)
    have hshare := State.handOn_share s a none
    refine ⟨_, p.aged, hexec, ?_, ?_, ?_, ?_, ?_, ?_, fun k hk => ?_, ?_, ?_, State.handOn_handedOn s _ none, ?_⟩
    · rw [hpeers, ← hstation]
      exact entryAt_putPeer_same _ _
    · rw [haged]
    · rw [haged]
    · rw [haged]
    · rw [haged]
    · rw [haged]
    · rw [hpeers]
      exact entryAt_putPeer_other (by rw [hstation]; exact hk.symm) _
    · rw [hpeers, hshare, State.recompute_capacity]
      rfl
    · rw [hpeers, hshare, State.recompute_grant, State.recompute_capacity]
      rfl
    · rw [State.handOn_state]
      exact (a.recompute_via.same .mode (by decide)).1
  · refine exec_agingStep_of_entry hs (State.agingStep_of_not_outgrown fun p hp => ?_)
    exact Bool.eq_false_iff.mpr fun h => hnot p hp (Peer.outgrown_iff.mp h)

theorem State.takePublication_of_acceptable {s : State} {f : RxFrame} {p : Publication} (h : s.acceptable f = some p) :
    s.takePublication f = State.handOn s (some f.src.toNat) (s.withPeers (putPeer (acceptedPeer f.src.toNat p) s.peers)) := by
  unfold State.takePublication
  rw [h]

theorem State.takePublication_of_discarded {s : State} {f : RxFrame} (h : s.acceptable f = none) :
    s.takePublication f = s := by
  unfold State.takePublication
  rw [h]

/-- R154: the comparison with the entry accepted puts the node in FAULT, or leaves its state. -/
theorem State.handOn_conflict {s : State} {n : Nat} {p : Peer} (hp : entryAt n s.peers = some p) (before : State) :
    (s.node.state ≠ .listen ∧ s.role = some p.role ∧ p.station < s.station →
        (State.handOn before (some n) s).finish.node.state = .fault
          ∧ (State.handOn before (some n) s).finish.node.faults.roleConflict = true)
      ∧ (¬(s.node.state ≠ .listen ∧ s.role = some p.role ∧ p.station < s.station) →
          (State.handOn before (some n) s).finish.node.state = s.node.state) := by
  have hvia := s.recompute_via
  have hentry : entryAt n s.recompute.peers = some p := (congrArg (entryAt n) (hvia.same .peers (by decide))).trans hp
  have hstate : s.recompute.node.state = s.node.state := (hvia.same .mode (by decide)).1
  have hrole : s.recompute.role = s.role := State.via_role hvia (by decide)
  have hstation : s.recompute.station = s.station := congrArg Straps.station (hvia.same .straps (by decide)).1
  have hiff : s.recompute.conflictsWith p = true ↔
      s.node.state ≠ .listen ∧ s.role = some p.role ∧ p.station < s.station := by
    rw [State.conflictsWith_iff, hstate, hrole, hstation]
  have hjudged : s.judged (some n) = if s.recompute.conflictsWith p then s.recompute.roleConflict else s.recompute :=
    State.compareRole_of_accepted hentry
  rw [State.handOn_state, State.handOn_roleConflict, hjudged]
  refine ⟨fun hc => ?_, fun hc => ?_⟩
  · rw [if_pos (hiff.mpr hc), State.roleConflict, State.faultWith_state, State.faultWith_faults]
    exact ⟨rfl, rfl⟩
  · rw [if_neg fun h => hc (hiff.mp h), hstate]

theorem State.handedOn_of_dropHeld {s t : State} (h : s.dropHeld.handedOn t) : s.handedOn t := h

/-- Settles O40: the entry filled and handed on, then the role comparison. -/
theorem acceptedPublicationsFillTheirEntry : Obligations.AcceptedPublicationsFillTheirEntry := by
  unfold Obligations.AcceptedPublicationsFillTheirEntry
  intro s f hh
  refine ⟨fun p hp => ?_, fun hnone hs => ?_⟩
  · let n := f.src.toNat
    let a := s.dropHeld.withPeers (putPeer (acceptedPeer n p) s.peers)
    let t := (State.handOn s.dropHeld (some n) a).finish
    have hexec : exec .publishHandled s = .next t := by
      have hact : exec .publishHandled s = .next (s.dropHeld.takePublication f).finish :=
        handled_of_heads State.takePublication hh
      rw [hact, State.takePublication_of_acceptable (s := s.dropHeld) hp]
      rfl
    have hpeers : t.peers = putPeer (acceptedPeer n p) s.peers := State.handOn_peers s.dropHeld a (some n)
    have hshare : t.share = a.recompute.share := State.handOn_share s.dropHeld a (some n)
    have hown : entryAt n t.peers = some (acceptedPeer n p) := by
      rw [hpeers]
      exact entryAt_putPeer_same (acceptedPeer n p) s.peers
    have hentry : entryAt n a.peers = some (acceptedPeer n p) := entryAt_putPeer_same (acceptedPeer n p) s.peers
    have hconflict := State.handOn_conflict hentry s.dropHeld
    have hhanded : s.handedOn t := State.handedOn_of_dropHeld (State.handOn_handedOn s.dropHeld _ (some n))
    have hall : a.via ([.node, .trk, .locks, .share] ++ Part.nodeChange) t :=
      ((a.judged_via (some n)).mono (by decide)).trans ((State.handOn_via_judged s.dropHeld a (some n)).mono (by decide))
    obtain ⟨-, -, hhold, -⟩ := hall.same .rx (by decide)
    refine ⟨t, hexec, hhold, hown, fun k hk => ?_, ?_, ?_, ?_, hhanded, ?_, ?_⟩
    · rw [hpeers]
      exact entryAt_putPeer_other (p := acceptedPeer n p) hk.symm _
    · rw [hpeers, hshare, State.recompute_capacity]
      rfl
    · rw [hshare, State.recompute_ownClaim]
      rfl
    · rw [hpeers, hshare, State.recompute_grant, State.recompute_capacity]
      rfl
    · exact hconflict
    · refine exec_agingStep_of_entry (State.finish_settled _) (State.agingStep_of_not_outgrown fun q hq => ?_)
      obtain rfl := Option.some.inj (hown.symm.trans hq)
      exact Peer.outgrown_acceptedPeer _ _ _
  · have hact : s.dropHeld.takePublication f = s.dropHeld := State.takePublication_of_discarded (s := s.dropHeld) hnone
    change handled .publishHandled State.takePublication s = _
    rw [handled_unsignalled hh hs (by rw [hact]; rfl), hact]

end Sys2Proof.Machine

/-! ## The end of the listen time (R200)

SETUP with the first publication, or FAULT for an invalid strap or a lower-numbered entry of the own role (R154). -/

namespace Sys2Proof.Machine

section
variable {s t : State}

theorem State.via_conflictHeld {ps : List Part} (h : s.via ps t) (hstraps : Part.straps ∉ ps) (hpeers : Part.peers ∉ ps) :
    t.conflictHeld = s.conflictHeld := by
  have hstation : t.station = s.station := congrArg Straps.station (h.same .straps hstraps).1
  unfold State.conflictHeld
  rw [State.via_role h hstraps, h.same .peers hpeers, hstation]

theorem State.beginPublishing_of_canPublish (h : s.canPublish = true) :
    s.beginPublishing = s.startPeriodic.signal := by
  unfold State.beginPublishing
  rw [if_pos h]

theorem State.beginPublishing_node (s : State) : s.beginPublishing.node = s.node := by
  unfold State.beginPublishing
  split <;> rfl

/-- R204, R200: a listen timer that runs stops at FAULT entry. -/
theorem State.enterFault_listen (s : State) : s.enterFault.node.listen = none := by
  unfold State.enterFault
  rw [State.setNodeState_node]
  rfl

theorem State.faultWith_listen (k : FaultKind) (h : s.node.state ≠ .fault) : (s.faultWith k).node.listen = none := by
  have hstate : (s.setFault k).node.state = s.node.state := by rw [State.setFault_node]
  unfold State.faultWith
  dsimp only
  rw [if_neg (by rw [hstate]; exact h)]
  exact State.enterFault_listen _

end

/-! ### What the end of the listen time makes of the node -/

/-- The node in LISTEN as its timer has stopped. -/
def State.heard (s : State) : State := s.withNode { s.node with listen := none }

theorem State.leaveListen_of_invalid {s : State} (h : s.strapsInvalid = true) :
    s.leaveListen = (s.heard.faultWith .strapInvalid).beginPublishing := if_pos h

theorem State.leaveListen_of_valid {s : State} (h : s.strapsInvalid = false) :
    s.leaveListen = if (s.heard.setNodeState .setup).beginPublishing.conflictHeld
      then (s.heard.setNodeState .setup).beginPublishing.roleConflict else (s.heard.setNodeState .setup).beginPublishing :=
  if_neg (by rw [show (s.withNode { s.node with listen := none }).strapsInvalid = s.strapsInvalid from rfl, h]; decide)

theorem State.heard_via (s : State) : s.via [.node, .mode] s.heard :=
  State.via_withNode (State.via_refl _ s) (by decide) _ rfl rfl (.inl (by decide)) (.inr ⟨rfl, rfl, rfl, rfl, rfl⟩) (fun hb => hb)

theorem State.setup_via (s : State) : s.via [.node, .mode, .drv, .pub] (s.heard.setNodeState .setup).beginPublishing := by
  have hset := State.via_setNodeState (ps := [.node, .mode, .drv, .pub]) (s.heard_via.mono (by decide)) (by decide) (by decide)
    (by decide) (by decide) .setup
  unfold State.beginPublishing
  split
  · exact State.via_signal (State.via_startPeriodic hset (by decide)) (by decide)
  · exact hset

theorem State.setup_node (s : State) :
    (s.heard.setNodeState .setup).beginPublishing.node = { s.node with listen := none, state := .setup } := by
  rw [State.beginPublishing_node, State.setNodeState_node]
  rfl

/-- R158, R200: with valid straps and no lower-numbered entry of the own role. -/
theorem State.setup_publishes {s : State} (hsil : s.silenced = false) (hinv : s.node.faults.strapInvalid = false)
    (hroom : s.line.queue.length < 6) :
    (s.heard.setNodeState .setup).beginPublishing.finish.pub.timer = Timer.ms s.node.setup.pubPeriod
      ∧ (s.heard.setNodeState .setup).beginPublishing.finish.publicationQueued := by
  have hvia := s.setup_via
  have hnode : (s.heard.setNodeState .setup).node = { s.node with listen := none, state := .setup } :=
    State.setNodeState_node _ _
  have hcan : (s.heard.setNodeState .setup).canPublish = true := by
    rw [State.canPublish, State.silenced, hnode]
    change (NodeState.setup != .listen && !s.silenced && !(s.node.faults.strapInvalid && _)) = true
    rw [hsil, hinv]
    rfl
  have hbegin := State.beginPublishing_of_canPublish hcan
  have hline : (s.heard.setNodeState .setup).beginPublishing.line = s.line := hvia.same .line (by decide)
  have hcan' : (s.heard.setNodeState .setup).beginPublishing.canPublish = true := by
    rw [hbegin]
    exact hcan
  refine ⟨?_, State.finish_queuesPublication ?_ hcan' (.inl (by rw [hline]; exact hroom))⟩
  · rw [State.finish_pub_timer, hbegin]
    change Timer.ms (s.heard.setNodeState .setup).declaredPeriod = _
    rw [State.declaredPeriod, hnode]
    rfl
  · rw [hbegin]
    rfl

theorem exec_listenTimerExpiry_of_running {s : State} (hst : s.node.state = .listen) (hrun : s.node.listen.isSome = true) :
    exec .listenTimerExpiry s = .next s.leaveListen.finish := by
  change taken (s.node.state == .listen && s.node.listen.isSome) State.leaveListen s = _
  exact taken_of_occurs _ s (by simp [hst, hrun])

/-- Settles O15: SETUP with the first publication, or FAULT with its kind. -/
theorem listenTimeEndsInSetupOrFault : Obligations.ListenTimeEndsInSetupOrFault := by
  unfold Obligations.ListenTimeEndsInSetupOrFault
  intro s hst hrun hsil hinv hroom
  have hexec := exec_listenTimerExpiry_of_running hst hrun
  have hnode := s.setup_node
  have hconflict : (s.heard.setNodeState .setup).beginPublishing.conflictHeld = s.conflictHeld :=
    State.via_conflictHeld s.setup_via (by decide) (by decide)
  refine ⟨fun hvalid hno => ?_, fun hinvalid => ?_, fun hvalid hheld => ?_⟩
  · obtain ⟨htimer, hpublished⟩ := State.setup_publishes hsil hinv hroom
    have hact : s.leaveListen = (s.heard.setNodeState .setup).beginPublishing := by
      rw [State.leaveListen_of_valid hvalid, hconflict, hno]
      rfl
    rw [hact] at hexec
    refine ⟨_, hexec, ?_, ?_, ?_, htimer, hpublished, State.sameBut_finish (s.setup_via.mono (by decide)) (by decide) (by decide)⟩
    · rw [State.finish_node, hnode]
    · rw [State.finish_node, hnode]
    · rw [State.finish_node, hnode]
  · rw [State.leaveListen_of_invalid hinvalid] at hexec
    have hheard : s.heard.node.state ≠ .fault := by
      change s.node.state ≠ _
      rw [hst]
      decide
    refine ⟨_, hexec, ?_, ?_, ?_⟩
    · rw [State.finish_node, State.beginPublishing_node, State.faultWith_state]
    · rw [State.finish_node, State.beginPublishing_node, State.faultWith_listen _ hheard]
    · rw [State.finish_node, State.beginPublishing_node, State.faultWith_faults]
      rfl
  · have hact : s.leaveListen = (s.heard.setNodeState .setup).beginPublishing.roleConflict := by
      rw [State.leaveListen_of_valid hvalid, hconflict, hheld]
      rfl
    rw [hact] at hexec
    refine ⟨_, hexec, ?_, ?_, ?_⟩
    · rw [State.finish_node, State.roleConflict, State.faultWith_state]
    · rw [State.finish_node, State.roleConflict, State.faultWith_listen _ (by rw [hnode]; exact fun h => nomatch h)]
    · rw [State.finish_node, State.roleConflict, State.faultWith_faults]
      rfl

end Sys2Proof.Machine

/-! ## Requests (R164, R169, R171)

The command of a function's row hands the REQUEST to the function's block through the gate of R171, and the blocks read
the state as it stood before the claim. -/

namespace Sys2Proof.Machine

section
variable {s : State} {row : Instr} {r : Request} {n k : Nat}

theorem exec_functionRow (hn : rowFn row = some n) (hreset : row ≠ .resetNode) (s : State) :
    exec row s = handled row (State.handleRequest (destination n)) s := by
  cases row <;> first | exact absurd rfl hreset | (cases hn; done) | (cases hn; rfl)

/-- R171: what the command of a claimed REQUEST answers, at the gate. -/
theorem exec_request (hn : rowFn row = some n) (hreset : row ≠ .resetNode) (ha : s.asks row r) (ht : s.takesRequest r k) :
    exec row s = .next (((s.claimed r).gated (destination n) (r.entry s.req.nextId)).finish) := by
  rw [exec_functionRow hn hreset, handled_request (destination n) ha ht]

/-- R171: so where the node state takes the function. -/
theorem exec_request_taken (hn : rowFn row = some n) (hreset : row ≠ .resetNode) (ha : s.asks row r)
    (ht : s.takesRequest r k) (hgate : gate s.node.state n = .taken) :
    exec row s = .next ((destination n (r.entry s.req.nextId) (s.claimed r)).finish) := by
  have hfn : (r.entry s.req.nextId).fn = n := State.asks_fn ha hn
  rw [exec_request hn hreset ha ht, State.gated_taken (by rw [State.claimed_node, hfn]; exact hgate)]

/-- R171: so where it refuses it. -/
theorem exec_request_refused (hn : rowFn row = some n) (hreset : row ≠ .resetNode) (ha : s.asks row r)
    (ht : s.takesRequest r k) (hgate : gate s.node.state n = .refused) :
    exec row s = .next (((s.claimed r).reply (r.entry s.req.nextId) .refusedState).finish) := by
  have hfn : (r.entry s.req.nextId).fn = n := State.asks_fn ha hn
  rw [exec_request hn hreset ha ht, State.gated_refused (by rw [State.claimed_node, hfn]; exact hgate)]

/-- R169, R172: a REQUEST replied at once, in the words of the statements. -/
theorem answered_of_reply {out : Out} {res : Result} {why : Reason} {content : List Byte}
    (hout : out = .next (((s.claimed r).reply (r.entry s.req.nextId) res why content).finish))
    (ht : s.takesRequest r (1 + (replyFrames .requestUnit r.requester r.tag r.fn res why content).length)) (hs : s.sound) :
    ∃ t, out = .next t ∧ s.answers r res why content t ∧ s.sameBut [.rx, .line, .req] t := by
  rw [State.finish_of_settled (State.settled_claimed_reply hs.2 r res why content)] at hout
  exact ⟨_, hout, State.answers_claimed ht hs, State.sameBut_claimed_reply s r res why content⟩

/-- A block reads the state before the claim in all but the Line Port and the Request Unit. -/
theorem State.claimed_reads {α : Type} (f : State → α) (hf : ∀ l q, f ((s.withLine l).withReq q) = f s) (r : Request) :
    f (s.claimed r) = f s := by
  obtain ⟨l, q, h⟩ := s.dropHeld.offer_eq (s.claimOfRequest r)
  rw [State.claimed, h]
  exact hf l _

theorem State.claimed_interlock (r : Request) (m : Mode) : (s.claimed r).interlock m = s.interlock m :=
  State.claimed_reads (fun s => s.interlock m) (fun _ _ => by cases m <;> rfl) r

theorem State.claimed_operationAsked (r : Request) (row : Instr) (args : List Byte) :
    (s.claimed r).operationAsked row args = s.operationAsked row args :=
  State.claimed_reads (fun s => s.operationAsked row args) (fun _ _ => by cases row <;> rfl) r

theorem State.claimed_operationRefused (r : Request) (row : Instr) (args : List Byte) :
    (s.claimed r).operationRefused row args = s.operationRefused row args :=
  State.claimed_reads (fun s => s.operationRefused row args) (fun _ _ => rfl) r

theorem noArgs_iff {a : List Byte} : noArgs a = true ↔ a = [] := List.isEmpty_iff

/-! ### Direct motion requests (R79) -/

/-- The rows of a direct motion request. -/
def motionRows : List Instr := [.winchMove, .crowdMove, .rotaryMove, .lock, .release]

theorem rowFn_of_motion (h : row ∈ motionRows) : ∃ n, rowFn row = some n ∧ row ≠ .resetNode := by
  simp only [motionRows, List.mem_cons, List.not_mem_nil, or_false] at h
  rcases h with rfl | rfl | rfl | rfl | rfl <;> exact ⟨_, rfl, by decide⟩

/-- R79: a direct motion request with bad arguments is refused, another goes on to its interlock. -/
theorem destination_of_motion (h : row ∈ motionRows) (hn : rowFn row = some n) (e : ReqEntry) (u : State) :
    destination n e u = (modeAsked row u.node.setup e.args).elim (u.reply e .badArgs) (u.takeDirect e) := by
  have hnone : ∀ m : Mode, (if noArgs e.args then u.takeDirect e m else u.reply e .badArgs)
      = (if e.args = [] then some m else none).elim (u.reply e .badArgs) (u.takeDirect e) := fun m => by
    by_cases ha : e.args = []
    · rw [if_pos ha, if_pos (noArgs_iff.mpr ha)]
      rfl
    · rw [if_neg ha, if_neg (mt noArgs_iff.mp ha)]
      rfl
  simp only [motionRows, List.mem_cons, List.not_mem_nil, or_false] at h
  rcases h with rfl | rfl | rfl | rfl | rfl <;> cases hn
  · change takeWinchMove e u = _
    rw [takeWinchMove, modeAsked]
    cases winchMode u.node.setup e.args <;> rfl
  · change takeCrowdMove e u = _
    rw [takeCrowdMove, modeAsked]
    cases crowdMode u.node.setup e.args <;> rfl
  · change takeRotaryMove e u = _
    rw [takeRotaryMove, modeAsked]
    cases rotaryMode u.node.setup e.args <;> rfl
  · exact hnone .lock
  · exact hnone .release

/-- R79: so in RUN, on the claimed REQUEST. -/
theorem exec_motion (h : row ∈ motionRows) (ha : s.asks row r) (ht : s.takesRequest r k) (hrun : s.node.state = .run) :
    exec row s = .next ((modeAsked row s.node.setup r.args).elim ((s.claimed r).reply (r.entry s.req.nextId) .badArgs)
      ((s.claimed r).takeDirect (r.entry s.req.nextId))).finish := by
  obtain ⟨n, hn, hreset⟩ := rowFn_of_motion h
  rw [exec_request_taken hn hreset ha ht (by rw [hrun]; exact gate_run n), destination_of_motion h hn, State.claimed_node]
  rfl

theorem State.takeDirect_of_refused {u : State} {e : ReqEntry} {m : Mode} {why : Reason} (h : u.interlock m = some why) :
    u.takeDirect e m = u.reply e .refusedInterlock why := by
  unfold State.takeDirect
  rw [h]

theorem State.takeDirect_of_holds {u : State} {e : ReqEntry} {m : Mode} (h : u.interlock m = none) :
    u.takeDirect e m = u.accept e m := by
  unfold State.takeDirect
  rw [h]

/-! ### Operation requests (R63, R65, R66, R72, R76) -/

/-- The rows of an operation request. -/
def operationRows : List Instr := [.lower, .lift, .extend, .bore, .spinOff]

theorem rowFn_of_operation (h : row ∈ operationRows) : ∃ n, rowFn row = some n ∧ row ≠ .resetNode := by
  simp only [operationRows, List.mem_cons, List.not_mem_nil, or_false] at h
  rcases h with rfl | rfl | rfl | rfl | rfl <;> exact ⟨_, rfl, by decide⟩

section
variable {u : State} {e : ReqEntry}

theorem takeLower_refused (h : u.operationAsked .lower e.args = none) :
    takeLower e u = u.reply e (u.operationRefused .lower e.args).1 (u.operationRefused .lower e.args).2 := by
  unfold takeLower State.operationRefused operationArgsRead
  cases hd : readDepth e.args with
  | none => rfl
  | some d =>
    rw [State.operationAsked, hd, Option.bind_some] at h
    exact if_neg fun hc => by rw [if_pos hc] at h; cases h

theorem takeLift_refused (h : u.operationAsked .lift e.args = none) :
    takeLift e u = u.reply e (u.operationRefused .lift e.args).1 (u.operationRefused .lift e.args).2 := by
  unfold takeLift State.operationRefused operationArgsRead
  cases hd : readDepth e.args with
  | none => rfl
  | some d =>
    rw [State.operationAsked, hd, Option.bind_some] at h
    exact if_neg fun hc => by rw [if_pos hc] at h; cases h

theorem takeSpinOff_refused (h : u.operationAsked .spinOff e.args = none) :
    takeSpinOff e u = u.reply e (u.operationRefused .spinOff e.args).1 (u.operationRefused .spinOff e.args).2 := by
  unfold takeSpinOff State.operationRefused operationArgsRead
  cases hd : readCycles e.args with
  | none => rfl
  | some c =>
    rw [State.operationAsked, hd, Option.bind_some] at h
    exact if_neg fun hc => by rw [if_pos hc] at h; cases h

theorem readBore_isBore {su : Setup} {args : List Byte} {spec : OpSpec} (h : readBore su args = some spec) :
    ∃ d f q v, spec = .bore d f q v := by
  unfold readBore at h
  grind

theorem takeBore_refused (h : u.operationAsked .bore e.args = none) :
    takeBore e u = u.reply e (u.operationRefused .bore e.args).1 (u.operationRefused .bore e.args).2 := by
  unfold takeBore State.operationRefused operationArgsRead
  cases hb : readBore u.node.setup e.args with
  | none => rfl
  | some spec =>
    obtain ⟨d, f, q, v, rfl⟩ := readBore_isBore hb
    rw [State.operationAsked, hb] at h
    dsimp only at h
    exact if_neg fun hc => by rw [if_pos hc] at h; cases h

theorem takeExtend_refused (h : u.operationAsked .extend e.args = none) :
    takeExtend e u = u.reply e (u.operationRefused .extend e.args).1 (u.operationRefused .extend e.args).2 := by
  unfold takeExtend
  by_cases ha : e.args = []
  · unfold State.operationRefused operationArgsRead
    have hargs : (!noArgs e.args) = false := by simp [noArgs, ha]
    have hread : e.args.isEmpty = true := by simp [ha]
    simp only [hargs, hread, Bool.false_eq_true, if_false, Bool.true_eq_false]
    by_cases hc : u.trk.state = .tracking ∧ u.rotaryIdle = true
    · have hidle : ¬(u.trk.state ≠ .tracking ∨ (!u.rotaryIdle) = true) := by simp [hc]
      rw [State.operationAsked, if_pos ⟨ha, hc⟩] at h
      rw [if_neg hidle, if_pos ⟨trivial, hc⟩]
      cases ht : u.extendTarget with
      | none => rfl
      | some jk =>
        rw [ht, Option.bind_some] at h
        dsimp only at h ⊢
        refine if_pos ?_
        by_contra hlt
        rw [if_pos (Int.not_lt.mp hlt)] at h
        cases h
    · have hidle : u.trk.state ≠ .tracking ∨ (!u.rotaryIdle) = true := by
        rcases not_and_or.mp hc with ht | hi
        exacts [.inl ht, .inr (by simpa using hi)]
      rw [if_pos hidle, if_neg fun h => hc h.2]
  · have hargs : (!noArgs e.args) = true := by simp [noArgs, ha]
    have hread : e.args.isEmpty = false := by simp [ha]
    have hanswer : u.operationRefused .extend e.args = (.badArgs, .noReason) := if_pos hread
    rw [if_pos hargs, hanswer]

end

/-- R48, R63, R65, R66, R72, R76: an operation request that does not start is answered so. -/
theorem destination_of_operation_refused (h : row ∈ operationRows) (hn : rowFn row = some n) {e : ReqEntry} {u : State}
    (hnone : u.operationAsked row e.args = none) :
    destination n e u = u.reply e (u.operationRefused row e.args).1 (u.operationRefused row e.args).2 := by
  simp only [operationRows, List.mem_cons, List.not_mem_nil, or_false] at h
  rcases h with rfl | rfl | rfl | rfl | rfl <;> cases hn
  exacts [takeLower_refused hnone, takeLift_refused hnone, takeExtend_refused hnone, takeBore_refused hnone,
    takeSpinOff_refused hnone]

theorem exec_operation_refused (h : row ∈ operationRows) (ha : s.asks row r) (ht : s.takesRequest r k)
    (hrun : s.node.state = .run) (hnone : s.operationAsked row r.args = none) :
    exec row s = .next (((s.claimed r).reply (r.entry s.req.nextId) (s.operationRefused row r.args).1
      (s.operationRefused row r.args).2).finish) := by
  obtain ⟨n, hn, hreset⟩ := rowFn_of_operation h
  rw [exec_request_taken hn hreset ha ht (by rw [hrun]; exact gate_run n),
    destination_of_operation_refused h hn ((State.claimed_operationAsked r row r.args).trans hnone),
    State.claimed_operationRefused]
  rfl

end

/-- Settles O54: the answers to a motion request and to an operation request that do not start. -/
theorem refusedMotionAndOperationsChangeNothing : Obligations.RefusedMotionAndOperationsChangeNothing := by
  unfold Obligations.RefusedMotionAndOperationsChangeNothing
  intro s row r ha ht hs hrun
  refine ⟨fun hrow => ⟨fun hnone => ?_, fun m why hmode hwhy => ?_⟩, fun hrow hnone => ?_⟩
  · have hexec := exec_motion hrow ha ht hrun
    rw [hnone] at hexec
    exact answered_of_reply hexec ht hs
  · have hexec := exec_motion hrow ha ht hrun
    rw [hmode, Option.elim_some, State.takeDirect_of_refused ((State.claimed_interlock r m).trans hwhy)] at hexec
    exact answered_of_reply hexec ht hs
  · exact answered_of_reply (exec_operation_refused hrow ha ht hrun hnone) ht hs

/-! ### The check by node state (R171, R208) -/

section
variable {s : State} {row : Instr} {r : Request} {n k : Nat}

theorem gate_runRows : ∀ row ∈ runRows, (rowFn row).map (gate .setup) = some .refused
    ∧ (rowFn row).map (gate .ready) = some .refused ∧ (rowFn row).map (gate .stopped) = some .refused
    ∧ (rowFn row).map (gate .parked) = some .held ∧ row ≠ .resetNode := by decide

theorem gate_pictureRows : ∀ row ∈ [Instr.setDatum, .assertPicture], (rowFn row).map (gate .setup) = some .refused
    ∧ (rowFn row).map (gate .ready) = some .taken ∧ (rowFn row).map (gate .run) = some .taken
    ∧ (rowFn row).map (gate .stopped) = some .taken ∧ (rowFn row).map (gate .parked) = some .held
    ∧ row ≠ .resetNode := by decide

/-- R171: the rows that a node state refuses. -/
theorem gate_refused_of (h : row ∈ runRows ∧ (s.node.state = .setup ∨ s.node.state = .ready ∨ s.node.state = .stopped)
    ∨ row ∈ [Instr.setDatum, .assertPicture] ∧ s.node.state = .setup) :
    ∃ n, rowFn row = some n ∧ row ≠ .resetNode ∧ gate s.node.state n = .refused := by
  have hfn : (rowFn row).map (gate s.node.state) = some .refused ∧ row ≠ .resetNode := by
    rcases h with ⟨hrow, hst⟩ | ⟨hrow, hst⟩
    · obtain ⟨hsetup, hready, hstopped, -, hreset⟩ := gate_runRows row hrow
      rcases hst with hst | hst | hst <;> rw [hst]
      exacts [⟨hsetup, hreset⟩, ⟨hready, hreset⟩, ⟨hstopped, hreset⟩]
    · obtain ⟨hsetup, -, -, -, -, hreset⟩ := gate_pictureRows row hrow
      rw [hst]
      exact ⟨hsetup, hreset⟩
  obtain ⟨n, hn, hg⟩ := Option.map_eq_some_iff.mp hfn.1
  exact ⟨n, hn, hfn.2, hg⟩

/-- R171: the rows that a PARKED node holds. -/
theorem gate_held_of (h : row ∈ runRows ∨ row ∈ [Instr.setDatum, .assertPicture]) :
    ∃ n, rowFn row = some n ∧ row ≠ .resetNode ∧ gate .parked n = .held := by
  have hfn : (rowFn row).map (gate .parked) = some .held ∧ row ≠ .resetNode := by
    rcases h with hrow | hrow
    · obtain ⟨-, -, -, hparked, hreset⟩ := gate_runRows row hrow
      exact ⟨hparked, hreset⟩
    · obtain ⟨-, -, -, -, hparked, hreset⟩ := gate_pictureRows row hrow
      exact ⟨hparked, hreset⟩
  obtain ⟨n, hn, hg⟩ := Option.map_eq_some_iff.mp hfn.1
  exact ⟨n, hn, hfn.2, hg⟩

theorem State.gated_held {u : State} {e : ReqEntry} {take : ReqEntry → State → State}
    (h : gate u.node.state e.fn = .held) : u.gated take e = u.interruptPark := by
  unfold State.gated
  rw [h]

theorem exec_request_held (hn : rowFn row = some n) (hreset : row ≠ .resetNode) (ha : s.asks row r)
    (ht : s.takesRequest r k) (hgate : gate s.node.state n = .held) :
    exec row s = .next (s.claimed r).interruptPark.finish := by
  have hfn : (r.entry s.req.nextId).fn = n := State.asks_fn ha hn
  rw [exec_request hn hreset ha ht, State.gated_held (by rw [State.claimed_node, hfn]; exact hgate)]

theorem State.claimed_via (ht : s.takesRequest r k) : s.via [.rx, .line, .req] (s.claimed r) := by
  rw [← State.enterRequest_takes (fun _ u => u) ht]
  exact State.via_enterRequest (s.dropHeld_via.mono (by decide)) (by decide) (by decide) r _ fun _ _ h => h

theorem State.interruptPark_via (u : State) : u.via [.node, .drv] u.interruptPark := by simp

theorem State.interruptPark_req (u : State) : u.interruptPark.req = u.req := by
  unfold State.interruptPark
  split <;> rfl

/-- R208: what a held request does to the parking. -/
theorem State.interruptPark_spec (u : State) : u.interruptPark.node.state = u.node.state
    ∧ (u.node.park = .settled → u.interruptPark.node.park = .waking ∧ u.interruptPark.node.parkTimer = Timer.ms 100
        ∧ u.interruptPark.drv.supply = true)
    ∧ (u.node.park = .entering → u.interruptPark.node = { u.node with interrupted := true }) := by
  refine ⟨u.interruptPark_stands.2.2.1, fun h => ?_, fun h => ?_⟩
  · rw [State.interruptPark_of_settled h]
    exact ⟨rfl, rfl, rfl⟩
  · rw [State.interruptPark_of_entering h]
    rfl

end

/-- Settles O47: the gate of R171 by row and node state. -/
theorem nodeStateRefusesOrHoldsFunctions : Obligations.NodeStateRefusesOrHoldsFunctions := by
  unfold Obligations.NodeStateRefusesOrHoldsFunctions
  intro s row r ha ht hs
  refine ⟨fun h => ?_, fun h hp => ?_⟩
  · obtain ⟨n, hn, hreset, hgate⟩ := gate_refused_of h
    exact answered_of_reply (exec_request_refused hn hreset ha ht hgate) ht hs
  · obtain ⟨n, hn, hreset, hgate⟩ := gate_held_of h
    have hexec := exec_request_held hn hreset ha ht (by rw [hp]; exact hgate)
    have hpub : (s.claimed r).interruptPark.pub = s.pub :=
      ((s.claimed r).interruptPark_stands.1).trans (State.claimed_pub r s)
    rw [State.finish_eq_of_settled hs.2 _ hpub] at hexec
    obtain ⟨hstate, hsettled, hentering⟩ := (s.claimed r).interruptPark_spec
    rw [State.claimed_node] at hstate hsettled hentering
    refine ⟨_, hexec, ?_, ?_, hstate.trans hp, hsettled, hentering, ?_⟩
    · rw [State.interruptPark_req, State.claimed_table]
    · rw [State.queued, (s.claimed r).interruptPark_stands.2.1]
      intro f hf
      rw [List.mem_singleton.mp hf]
      exact State.claimed_queued ht (by decide)
    · exact (((State.claimed_via ht).mono (by decide)).trans ((s.claimed r).interruptPark_via.mono (by decide)) :
        s.via [.rx, .node, .drv, .line, .req] (s.claimed r).interruptPark).1

/-! ### Requests not valid, with a full table, or not claimed (R166 to R169) -/

section
variable {s : State} {row : Instr} {r : Request}

theorem exec_undefinedFunction (ha : s.asks .undefinedFunction r) {k : Nat} (ht : s.takesRequest r k) :
    exec .undefinedFunction s = .next (((s.claimed r).reply (r.entry s.req.nextId) .badArgs).finish) :=
  handled_refuse ha ht

theorem exec_resetNode_of_heads {f : RxFrame} (h : s.heads .resetNode f) :
    exec .resetNode s = .next ((s.dropHeld).handleRequest takeResetNode f).conclude := by
  change execResetNode s = _
  unfold execResetNode
  rw [State.headIs_of_heads h]

theorem State.handleRequest_of_request {f : RxFrame} (h : f.request? = some r) (take : ReqEntry → State → State) (u : State) :
    u.handleRequest take f = u.enterRequest r fun e s => s.gated take e := by
  unfold State.handleRequest
  rw [h]

theorem State.refuseRequest_of_request {f : RxFrame} (h : f.request? = some r) (u : State) :
    u.refuseRequest f = u.enterRequest r fun e s => s.reply e .badArgs := by
  unfold State.refuseRequest
  rw [h]

/-- R169: the rows of a REQUEST that the node owns enter it, and their event ends there where nothing acts on it. -/
theorem exec_requestRow (hrow : row ∈ requestRows) (ha : s.asks row r) (hs : s.settled) (hr : s.noResetWaits) :
    ∃ act, ∀ u, s.dropHeld.enterRequest r act = u → u.pub = s.pub → u.req.table = s.req.table → exec row s = .next u := by
  obtain ⟨f, hh, hf⟩ := ha
  by_cases hundef : row = .undefinedFunction
  · subst hundef
    refine ⟨fun e s => s.reply e .badArgs, fun u hu hpub _ => ?_⟩
    rw [← State.refuseRequest_of_request hf] at hu
    change handled .undefinedFunction State.refuseRequest s = _
    rw [handled_unsignalled hh hs (by rw [hu]; exact hpub), hu]
  by_cases hreset : row = .resetNode
  · subst hreset
    refine ⟨fun e s => s.gated takeResetNode e, fun u hu hpub htable => ?_⟩
    rw [← State.handleRequest_of_request hf takeResetNode] at hu
    rw [exec_resetNode_of_heads hh, hu, State.conclude_unsignalled hs hr hpub htable]
  · have hfn : ∀ row ∈ requestRows, row ≠ .undefinedFunction → (rowFn row).isSome = true := by decide
    obtain ⟨n, hn⟩ := Option.isSome_iff_exists.mp (hfn row hrow hundef)
    refine ⟨fun e s => s.gated (destination n) e, fun u hu hpub _ => ?_⟩
    rw [← State.handleRequest_of_request hf (destination n)] at hu
    rw [exec_functionRow hn hreset, handled_unsignalled hh hs (by rw [hu]; exact hpub), hu]

theorem State.enterRequest_of_not_claimed {u : State} (act : ReqEntry → State → State)
    (h : u.claims (isStationAddressed r.fn) = false) : u.enterRequest r act = u := if_pos (by rw [h]; rfl)

theorem State.enterRequest_of_full {u : State} (act : ReqEntry → State → State)
    (h : u.claims (isStationAddressed r.fn) = true) (hfull : 4 ≤ u.req.table.length) :
    u.enterRequest r act = u.offerAll (claimFrame .requestUnit r.requester r.tag r.fn 0
      :: replyFrames .requestUnit r.requester r.tag r.fn .busy .noReason []) := by
  unfold State.enterRequest
  rw [if_neg (by rw [h]; decide), if_pos hfull]
  rfl

theorem claim_reply_not_publish (kind : Nat) (res : Result) : ∀ f ∈ claimFrame .requestUnit r.requester r.tag r.fn kind
    :: replyFrames .requestUnit r.requester r.tag r.fn res .noReason [], f.isPublish = false := fun f hf => by
  rcases List.mem_cons.mp hf with rfl | hf
  exacts [rfl, replyFrames_not_publish hf]

end

/-- Settles O48: by whether the node claims the REQUEST and its table has a place for it. -/
theorem requestsAreIgnoredBusyOrBadArgs : Obligations.RequestsAreIgnoredBusyOrBadArgs := by
  unfold Obligations.RequestsAreIgnoredBusyOrBadArgs
  intro s r hs
  refine ⟨fun ha ht => answered_of_reply (exec_undefinedFunction ha ht) ht hs, fun row hrow ha hr => ?_⟩
  obtain ⟨act, hact⟩ := exec_requestRow hrow ha hs.2 hr
  refine ⟨fun hclaims hfull hroom => ?_, fun hclaims => ?_⟩
  · have henter := State.enterRequest_of_full (u := s.dropHeld) (r := r) act hclaims hfull
    obtain ⟨hsil, hlen⟩ := hroom
    have hreq := State.offerAll_req (fs := claimFrame .requestUnit r.requester r.tag r.fn 0
      :: replyFrames .requestUnit r.requester r.tag r.fn .busy .noReason []) (s := s.dropHeld) hsil hlen
      (claim_reply_not_publish 0 .busy)
    have hvia : s.via [.rx, .line] (s.dropHeld.offerAll (claimFrame .requestUnit r.requester r.tag r.fn 0
        :: replyFrames .requestUnit r.requester r.tag r.fn .busy .noReason [])) :=
      State.via_offer_plain (State.via_offer_plain s.dropHeld_via (by decide) _ rfl) (by decide) _ rfl
    refine ⟨_, hact _ henter (hvia.same .pub (by decide)) (congrArg RequestUnit.table hreq), hreq,
      State.queued_offerAll _ s.dropHeld hsil hlen (claim_reply_not_publish 0 .busy), hvia.1⟩
  · exact hact _ (State.enterRequest_of_not_claimed (u := s.dropHeld) act hclaims) rfl rfl

section
variable {s v : State} {row : Instr} {r : Request} {n : Nat} {res : Result} {why : Reason} {content : List Byte}

/-! ### Blocks that act before they answer -/

/-- R169, R172: an answer from a state whose table, queue and fault set are those of the claimed REQUEST. -/
theorem State.answers_of_claimed (hreq : v.req.table = (s.claimed r).req.table)
    (hqueue : v.line.queue = (s.claimed r).line.queue) (hfaults : v.silenced = s.silenced)
    (ht : s.takesRequest r (1 + (replyFrames .requestUnit r.requester r.tag r.fn res why content).length)) (hs : s.sound) :
    s.answers r res why content (v.reply (r.entry s.req.nextId) res why content).finish := by
  refine State.answers_finish (State.answers_reply (State.fresh_of_sound hs) (hreq.trans (State.claimed_table r s)) ?_ ?_ ?_)
  · rw [hqueue]
    exact State.claimed_queued ht (Nat.le_add_right 1 _)
  · rw [hfaults]
    exact ht.2.2.1
  · have hroom := ht.2.2.2
    have hclaim := State.claimed_length r s
    rw [hqueue]
    omega

theorem State.reply_via (e : ReqEntry) (res : Result) (why : Reason) (content : List Byte) (u : State) :
    u.via [.line, .req] (u.reply e res why content) := by simp

/-- What a block leaves that acts on the claimed REQUEST and answers it. -/
theorem State.sameBut_answered {ps : List Part} {k : Nat} (ht : s.takesRequest r k) (hv : (s.claimed r).via ps v)
    (hps : [.rx, .line, .req] ⊆ ps) (hpub : Part.pub ∈ ps) (e : ReqEntry) (res : Result) (why : Reason)
    (content : List Byte) : s.sameBut ps (v.reply e res why content).finish :=
  State.sameBut_finish ((((State.claimed_via ht).mono hps).trans hv).trans
    ((v.reply_via e res why content).mono fun _ hp => hps (List.mem_cons_of_mem _ hp))) hpub (hps (by decide))

/-! ### Queries (R25, R45, R156, R157, R177) -/

/-- The rows of a query. -/
def queryRows : List Instr := [.queryKelly, .queryLocks, .queryCrowd, .queryPeer, .queryNode]

theorem gate_query (st : NodeState) : ∀ row ∈ queryRows, (rowFn row).map (gate st) = some .taken ∧ row ≠ .resetNode := by
  cases st <;> decide

/-- A query is answered with its record, or BAD_ARGS. -/
theorem destination_of_query (h : row ∈ queryRows) (hn : rowFn row = some n) (e : ReqEntry) (u : State) :
    destination n e u = (queryContent row u e.args).elim (u.reply e .badArgs) fun c => u.reply e .done .noReason c := by
  have hif : ∀ (c : Prop) [Decidable c] (content : List Byte),
      (if c then u.reply e .done .noReason content else u.reply e .badArgs)
        = (if c then some content else none).elim (u.reply e .badArgs) fun c => u.reply e .done .noReason c := fun c _ content => by
    by_cases hc : c
    · rw [if_pos hc, if_pos hc]
      rfl
    · rw [if_neg hc, if_neg hc]
      rfl
  simp only [queryRows, List.mem_cons, List.not_mem_nil, or_false] at h
  rcases h with rfl | rfl | rfl | rfl | rfl <;> cases hn
  · rfl
  · rfl
  · change takeQueryCrowd e u = _
    rw [takeQueryCrowd, queryContent, ← hif]
    simp only [noArgs_iff]
  · exact hif _ _
  · change takeQueryNode e u = _
    rw [takeQueryNode, queryContent, ← hif]
    simp only [stationArgOnly, beq_iff_eq]

theorem exec_query (h : row ∈ queryRows) {k : Nat} (ha : s.asks row r) (ht : s.takesRequest r k) :
    exec row s = .next ((queryContent row (s.claimed r) r.args).elim ((s.claimed r).reply (r.entry s.req.nextId) .badArgs)
      fun c => (s.claimed r).reply (r.entry s.req.nextId) .done .noReason c).finish := by
  obtain ⟨hgate, hreset⟩ := gate_query s.node.state row h
  obtain ⟨n, hn, hg⟩ := Option.map_eq_some_iff.mp hgate
  rw [exec_request_taken hn hreset ha ht hg, destination_of_query h hn]
  rfl

end

/-- Settles O50: each query by its record. -/
theorem queriesAnswerTheirRecord : Obligations.QueriesAnswerTheirRecord := by
  unfold Obligations.QueriesAnswerTheirRecord
  intro s row r hrow ha hs
  refine ⟨fun content hcontent ht => ?_, fun hnone ht => ?_⟩
  · have hexec := exec_query hrow ha ht
    rw [hcontent] at hexec
    exact answered_of_reply hexec ht hs
  · have hexec := exec_query hrow ha ht
    rw [hnone] at hexec
    exact answered_of_reply hexec ht hs

/-! ### TOOL requests (R93, R94) -/

section
variable {s : State} {row : Instr} {r : Request} {x : ToolState}

theorem toolAsked_rows (h : toolAsked row = some x) : ∃ n, rowFn row = some n ∧ row ≠ .resetNode := by
  cases row <;> first | exact ⟨_, rfl, by decide⟩ | cases h

theorem destination_of_tool_badArgs {n : Nat} (h : toolAsked row = some x) (hn : rowFn row = some n) {e : ReqEntry} (u : State)
    (hargs : e.args ≠ []) : destination n e u = u.reply e .badArgs := by
  have hno : (!noArgs e.args) = true := by rw [Bool.not_eq_true', Bool.eq_false_iff]; exact mt noArgs_iff.mp hargs
  cases row <;> first | (cases h; done) | (cases hn; exact if_pos hno)

theorem destination_of_tool {n : Nat} (h : toolAsked row = some x) (hn : rowFn row = some n) {e : ReqEntry} {u : State}
    (hargs : e.args = []) (hlock : row = .toolOpen → u.toolInterlock = true) :
    destination n e u = (u.setDrv { u.drv with tool := x }).reply e .done := by
  have hno : ¬(!noArgs e.args) = true := by rw [noArgs_iff.mpr hargs]; decide
  cases row <;> first | (cases h; done) | (cases h; cases hn)
  · exact (if_neg hno).trans (if_pos (hlock rfl))
  · exact if_neg hno
  · exact if_neg hno

theorem destination_of_toolOpen_refused {e : ReqEntry} {u : State} (hargs : e.args = []) (hlock : u.toolInterlock = false) :
    destination Fn.toolOpen e u = u.reply e .refusedInterlock := by
  have hno : ¬(!noArgs e.args) = true := by rw [noArgs_iff.mpr hargs]; decide
  exact (if_neg hno).trans (if_neg (by rw [hlock]; decide))

theorem State.claimed_toolInterlock (r : Request) (s : State) : (s.claimed r).toolInterlock = s.toolInterlock :=
  State.claimed_reads State.toolInterlock (fun _ _ => rfl) r

end

/-- Settles O60: by the arguments and the interlock of TOOL_OPEN. -/
theorem toolRequestsMoveTheTool : Obligations.ToolRequestsMoveTheTool := by
  unfold Obligations.ToolRequestsMoveTheTool
  intro s row r x hx ha ht hs hrun
  obtain ⟨n, hn, hreset⟩ := toolAsked_rows hx
  have hexec := exec_request_taken hn hreset ha ht (by rw [hrun]; exact gate_run n)
  refine ⟨fun hargs hlock => ?_, fun hargs hrow hlock => ?_, fun hargs => ?_⟩
  · rw [destination_of_tool hx hn hargs fun h => (State.claimed_toolInterlock r s).trans (hlock h)] at hexec
    refine ⟨_, hexec, ?_, ?_, ?_, State.answers_of_claimed (by simp) (by simp) (by simp [State.silenced]) ht hs,
      State.sameBut_answered ht (by simp) (by decide) (by decide) _ _ _ _⟩
    · rw [State.finish_drv, State.reply_drv, State.setDrv_drv]
      rfl
    · rw [State.finish_drv, State.reply_drv, State.setDrv_drv, State.claimed_drv]
      rfl
    · rw [State.finish_drv, State.reply_drv, State.setDrv_drv, State.claimed_drv]
      rfl
  · subst hrow
    cases hn
    rw [destination_of_toolOpen_refused hargs ((State.claimed_toolInterlock r s).trans hlock)] at hexec
    exact answered_of_reply hexec ht hs
  · rw [destination_of_tool_badArgs hx hn _ hargs] at hexec
    exact answered_of_reply hexec ht hs

/-! ### The claimed REQUEST beside a running operation -/

section
variable {s : State} {r : Request} {k : Nat}

theorem State.claimed_hasRoom (ht : s.takesRequest r (k + 1)) : (s.claimed r).hasRoom k := by
  obtain ⟨-, -, hsil, hlen⟩ := ht
  have hclaim := State.claimed_length r s
  exact ⟨by rw [State.silenced, State.claimed_node]; exact hsil, by omega⟩

theorem State.takesRequest.mono {j : Nat} (ht : s.takesRequest r k) (hjk : j ≤ k) : s.takesRequest r j :=
  ⟨ht.1, ht.2.1, ht.2.2.mono hjk⟩

theorem State.claimed_offer_req (ht : s.takesRequest r k) (hk : 1 ≤ k) :
    (s.dropHeld.offer (s.claimOfRequest r)).req = s.req := by
  obtain ⟨-, -, hsil, hlen⟩ := ht
  rw [State.offer_of_room (s := s.dropHeld) hsil (by change s.line.queue.length < 6; omega) rfl]
  rfl

theorem State.claimed_tagCtr (ht : s.takesRequest r k) (hk : 1 ≤ k) : (s.claimed r).req.tagCtr = s.req.tagCtr :=
  show (s.dropHeld.offer (s.claimOfRequest r)).req.tagCtr = _ from congrArg RequestUnit.tagCtr (State.claimed_offer_req ht hk)

theorem State.claimed_shifter (r : Request) (s : State) : (s.claimed r).line.shifter = s.line.shifter :=
  State.offer_shifter (s.claimOfRequest r) s.dropHeld

theorem State.claimed_entryOf {id : Nat} {e : ReqEntry} (h : s.entryOf id = some e) (r : Request) :
    (s.claimed r).entryOf id = some e := by
  unfold State.entryOf at *
  rw [State.claimed_table, List.find?_append, h]
  rfl

theorem State.claimed_runsFor {o : OpRecord} {e : ReqEntry} (h : s.runsFor o e)
    (ht : s.takesRequest r (2 + o.subs.length)) : (s.claimed r).runsFor o e :=
  ⟨(State.claimed_op r s).trans h.1, State.claimed_entryOf h.2.1 r, State.claimed_hasRoom (by rw [Nat.add_right_comm]; exact ht)⟩

/-- The end of an operation, told of the state before the claim. -/
theorem State.opEnded_of_claimed {e : ReqEntry} {subs : List SubEntry} {res : Result} {why : Reason} {t : State}
    (h : (s.claimed r).opEnded e subs res why t) (ht : s.takesRequest r k) (hk : 1 ≤ k) : s.opEnded e subs res why t :=
  State.opEnded_of_eq h (by rw [State.claimed_drv]) (by rw [State.claimed_drv]) (State.claimed_tagCtr ht hk)
    (by rw [State.claimed_node]) (State.claimed_shifter r s)

theorem State.claimOfRequest_owner (s : State) (r : Request) : (s.claimOfRequest r).owner.isSubRequest = false := by
  unfold State.claimOfRequest
  split <;> rfl

end

section
variable {s t u : State} {e : ReqEntry} {o : OpRecord} {subs : List SubEntry} {res : Result} {why : Reason}

theorem State.opEnded_queues (h : s.opEnded e subs res why t) (hq : State.Queues TxFrame.notSubRequest t u)
    (htable : u.req.table ⊆ t.req.table) (hop : u.op = t.op) (hdrv : u.drv = t.drv) : s.opEnded e subs res why u := by
  obtain ⟨hnone, hhold, hreply, hwound⟩ := h
  exact ⟨hop.trans hnone, by rw [hdrv]; exact hhold, hq.replied hreply htable, hwound.queues hq⟩

theorem State.reply_length (e : ReqEntry) (res : Result) (why : Reason) (s : State) :
    (s.reply e res why).line.queue.length ≤ s.line.queue.length + 1 := State.length_offerAll _ s

theorem State.replyTo_length (id : Nat) (res : Result) (why : Reason) (s : State) :
    (s.replyTo id res why).line.queue.length ≤ s.line.queue.length + 1 := by
  unfold State.replyTo
  split
  · exact State.reply_length _ _ _ s
  · exact Nat.le_succ _

/-- R57: an end adds its HOLDs and its REPLY to the queue. -/
theorem State.closeOp_length (o : OpRecord) (windDown : Bool) (res : Result) (why : Reason) (s : State) :
    (s.closeOp o windDown (some (res, why))).line.queue.length ≤ s.line.queue.length + (1 + o.subs.length) := by
  have hclosed : (s.closeOp o windDown (some (res, why))).line = ((s.wound o windDown).replyTo o.entry res why).line := by
    rw [State.closeOp_eq, State.signalOp_line, State.withOp_line]
  have hwound := s.wound_length o windDown
  have hreply := State.replyTo_length o.entry res why (s.wound o windDown)
  rw [hclosed]
  omega

theorem State.queued_reply (h : s.hasRoom 1) (e : ReqEntry) (res : Result) (why : Reason) :
    (s.reply e res why).queued (replyFrames .requestUnit e.requester e.tag e.fn res why []) := by
  obtain ⟨hsil, hlen⟩ := h
  exact State.queued_offerAll _ s hsil hlen fun _ hf => replyFrames_not_publish hf

theorem State.endOp_via (res : Result) (why : Reason) (s : State) : s.via Part.ending (s.endOp res why) := by
  simp (maxDischargeDepth := 10) [Part.ending, Part.publication]

theorem State.endOp_length (hop : s.op = some o) (res : Result) (why : Reason) :
    (s.endOp res why).line.queue.length ≤ s.line.queue.length + (1 + o.subs.length) := by
  have hlen := State.closeOp_length o true res why s.giveHold
  rwa [State.giveHold_line, ← State.endOp_of_op hop] at hlen

end

/-! ### BORE_STOP (R75) -/

section
variable {u : State} {e : ReqEntry}

theorem takeBoreStop_badArgs (h : e.args ≠ []) : takeBoreStop e u = u.reply e .badArgs :=
  if_pos (by rw [Bool.not_eq_true', Bool.eq_false_iff]; exact mt noArgs_iff.mp h)

theorem takeBoreStop_idle (h : e.args = []) (hidle : ∀ o, u.op = some o → o.spec.code ≠ 4) :
    takeBoreStop e u = u.reply e .done := by
  unfold takeBoreStop
  rw [if_neg (by rw [noArgs_iff.mpr h]; decide)]
  cases hop : u.op with
  | none => rfl
  | some o => exact congrArg (State.reply e .done .noReason []) (if_neg (by simpa using hidle o hop))

theorem takeBoreStop_boring {o : OpRecord} (h : e.args = []) (hop : u.op = some o) (hcode : o.spec.code = 4) :
    takeBoreStop e u = (u.endOp .done .stoppedByRequest).reply e .done := by
  unfold takeBoreStop
  rw [if_neg (by rw [noArgs_iff.mpr h]; decide), hop]
  exact congrArg (State.reply e .done .noReason []) (if_pos (by simpa using hcode))

end

/-- Settles O57: by the arguments and the operation that runs. -/
theorem boreStopEndsTheBore : Obligations.BoreStopEndsTheBore := by
  unfold Obligations.BoreStopEndsTheBore
  intro s r ha hs hrun
  have hexec : ∀ {k}, s.takesRequest r k → exec .boreStop s
      = .next (takeBoreStop (r.entry s.req.nextId) (s.claimed r)).finish := fun ht =>
    exec_request_taken (row := .boreStop) rfl (by decide) ha ht (by rw [hrun]; exact gate_run _)
  refine ⟨fun hargs hidle ht => ?_, fun o e hargs hop hcode hentry ht => ?_, fun hargs ht => ?_⟩
  · have h := hexec ht
    rw [takeBoreStop_idle hargs fun o ho => hidle o ((State.claimed_op r s).symm.trans ho)] at h
    exact answered_of_reply h ht hs
  · have h := hexec ht
    rw [takeBoreStop_boring hargs ((State.claimed_op r s).trans hop) hcode] at h
    have hruns : (s.claimed r).runsFor o e := State.claimed_runsFor
      ⟨hop, hentry, ht.2.2.mono (by omega)⟩ (ht.mono (by omega))
    have hended := State.opEnded_of_claimed (State.endOp_opEnded hruns .done .stoppedByRequest) ht (by omega)
    have hlen := State.endOp_length hruns.1 .done .stoppedByRequest
    have hroom : ((s.claimed r).endOp .done .stoppedByRequest).hasRoom 1 := by
      obtain ⟨hsil, hl⟩ := State.claimed_hasRoom (k := 2 + o.subs.length) (by rw [Nat.add_right_comm]; exact ht)
      exact ⟨by rw [State.silenced, ((s.claimed r).endOp_via .done .stoppedByRequest).same .node (by decide)]; exact hsil,
        by omega⟩
    let v := (s.claimed r).endOp .done .stoppedByRequest
    refine ⟨_, h, State.opEnded_finish (State.opEnded_queues hended (.reply _ _ _ _ v)
      (State.reply_table_subset _ _ _ _ v) (State.reply_op _ _ _ _ v) (State.reply_drv _ _ _ _ v)), ?_⟩
    refine State.queued_finish (fun f hf => ?_) fun f hf => ?_
    · rcases List.mem_cons.mp hf with rfl | hf
      · exact State.mem_offerAll_of_mem _ _ _ (State.KeepsFrames.endOp .done .stoppedByRequest _ _
          (State.claimed_queued ht (by omega)) rfl (State.claimOfRequest_owner s r)) rfl
      · exact State.queued_reply hroom (r.entry s.req.nextId) .done .noReason f hf
    · rcases List.mem_cons.mp hf with rfl | hf
      exacts [rfl, replyFrames_not_publish hf]
  · have h := hexec ht
    rw [takeBoreStop_badArgs hargs] at h
    exact answered_of_reply h ht hs

/-! ### CLEAR_FAULT (R206) -/

/-- R206: a kind whose condition is gone leaves the fault set and the pull. -/
def NodeCtl.clearIf (gone : FaultKind → Bool) (n : NodeCtl) (k : FaultKind) : NodeCtl :=
  if gone k then { n with faults := n.faults.put k false, pull := n.pull.put k false } else n

theorem State.clearIfGone_node (k : FaultKind) (s : State) :
    (s.clearIfGone k).node = s.node.clearIf s.conditionGone k := by
  unfold State.clearIfGone NodeCtl.clearIf
  split
  · rw [State.withNode_node, State.clearFault_node]
  · rfl

/-- The conditions read the readings, the sharing and the setup, which no clearing touches. -/
theorem State.via_conditionGone {ps : List Part} {s t : State} (h : s.via ps t) (hsens : Part.sens ∉ ps)
    (hshare : Part.share ∉ ps) (hsetup : Part.setup ∉ ps) : t.conditionGone = s.conditionGone := by
  have hset : t.node.setup = s.node.setup := (h.same .setup hsetup).1
  funext k
  unfold State.conditionGone
  rw [h.same .sens hsens, h.same .share hshare, hset]

theorem State.foldl_clearIfGone_node (ks : List FaultKind) (s : State) :
    (ks.foldl (fun s k => s.clearIfGone k) s).node = ks.foldl (NodeCtl.clearIf s.conditionGone) s.node := by
  induction ks generalizing s with
  | nil => rfl
  | cons k ks ih =>
    have hvia : s.via [.node, .pub] (s.clearIfGone k) := State.via_clearIfGone (State.via_refl _ s) (by decide) (by decide) k
    rw [List.foldl_cons, List.foldl_cons, ih, State.clearIfGone_node,
      State.via_conditionGone hvia (by decide) (by decide) (by decide)]

/-- R206: what CLEAR_FAULT leaves of Node Control. -/
theorem State.clearFaults_node (s : State) : s.clearFaults.node =
    { s.node with
      faults := { s.node.faults with
        setupError := false, lockSlip := false, overExtension := false
        slackRope := s.node.faults.slackRope && decide (s.sens.tension ≤ s.node.setup.slackTension)
        guardStarved := s.node.faults.guardStarved && s.share.guardShort }
      pull := { lockSlip := false, overExtension := false
                slackRope := s.node.pull.slackRope && decide (s.sens.tension ≤ s.node.setup.slackTension) } } := by
  have hslack : decide (s.sens.tension ≤ s.node.setup.slackTension)
      = !decide (s.sens.tension > s.node.setup.slackTension) := by
    rw [← decide_not]
    exact decide_eq_decide.mpr Nat.not_lt.symm
  rw [State.clearFaults, State.foldl_clearIfGone_node, hslack]
  have hgone : s.conditionGone .slackRope = decide (s.sens.tension > s.node.setup.slackTension) := rfl
  have hshort : s.conditionGone .guardStarved = !s.share.guardShort := rfl
  rw [← hgone]
  have hguard : s.share.guardShort = !s.conditionGone .guardStarved := by rw [hshort, Bool.not_not]
  rw [hguard]
  change NodeCtl.clearIf s.conditionGone (NodeCtl.clearIf s.conditionGone
    { s.node with
      faults := { s.node.faults with setupError := false, lockSlip := false, overExtension := false }
      pull := { s.node.pull with lockSlip := false, overExtension := false } } .slackRope) .guardStarved = _
  unfold NodeCtl.clearIf
  cases s.conditionGone .slackRope <;> cases s.conditionGone .guardStarved <;>
    simp [FaultSet.put, StopPull.put]

section
variable {u : State} {e : ReqEntry}

theorem stationArgOnly_iff {a : List Byte} : stationArgOnly a = true ↔ a.length = 1 := beq_iff_eq

theorem takeClearFault_badArgs (hst : u.node.state ≠ .fault) (h : e.args.length ≠ 1) :
    takeClearFault e u = u.reply e .badArgs := by
  unfold takeClearFault
  rw [if_neg hst, if_pos (by rw [Bool.not_eq_true', Bool.eq_false_iff]; exact mt stationArgOnly_iff.mp h)]

theorem takeClearFault_done (hst : u.node.state ≠ .fault) (h : e.args.length = 1) :
    takeClearFault e u = u.clearFaults.reply e .done .noReason (natBytes 2 u.clearFaults.node.faults.code) := by
  unfold takeClearFault
  rw [if_neg hst, if_neg (by rw [stationArgOnly_iff.mpr h]; decide)]

theorem gate_clearFault (st : NodeState) : gate st Fn.clearFault = if st = .fault then .refused else .taken := by
  cases st <;> rfl

theorem gate_park (st : NodeState) : gate st Fn.park = if st = .fault then .refused else .taken := by
  cases st <;> rfl

end

/-- Settles O51: by the node state and the arguments. -/
theorem clearFaultRemovesWhatIsGone : Obligations.ClearFaultRemovesWhatIsGone := by
  unfold Obligations.ClearFaultRemovesWhatIsGone
  intro s r ha ht hs
  have hexec : s.node.state ≠ .fault → exec .clearFault s
      = .next (takeClearFault (r.entry s.req.nextId) (s.claimed r)).finish := fun hst =>
    exec_request_taken (row := .clearFault) rfl (by decide) ha ht ((gate_clearFault _).trans (if_neg hst))
  have hstate : s.node.state ≠ .fault → (s.claimed r).node.state ≠ .fault := fun hst => by rw [State.claimed_node]; exact hst
  refine ⟨fun hst hargs => ?_, fun hst => ?_, fun hst hargs => ?_⟩
  · have h := hexec hst
    rw [takeClearFault_done (hstate hst) hargs] at h
    have hnode := (s.claimed r).clearFaults_node
    simp only [State.claimed_node, State.claimed_sens, State.claimed_share] at hnode
    have hvia : (s.claimed r).via [.node, .pub] (s.claimed r).clearFaults := by simp
    have hreq : (s.claimed r).clearFaults.req = (s.claimed r).req := hvia.same .req (by decide)
    have hline : (s.claimed r).clearFaults.line = (s.claimed r).line := hvia.same .line (by decide)
    generalize hv : (s.claimed r).clearFaults = v at h hnode hvia hreq hline
    refine ⟨_, h, ?_, ?_, ?_, ?_, State.sameBut_answered ht (hvia.mono (by decide)) (by decide) (by decide) _ _ _ _⟩
    · rw [State.finish_node, State.reply_node, hnode]
    · rw [State.finish_node, State.reply_node, hnode]
    · rw [State.finish_node, State.reply_node]
      exact State.answers_of_claimed (by rw [hreq]) (by rw [hline]) (by rw [State.silenced, hnode]; rfl) ht hs
    · rw [State.finish_node, State.reply_node, hnode]
  · exact answered_of_reply (exec_request_refused (row := .clearFault) rfl (by decide) ha ht
      ((gate_clearFault _).trans (if_pos hst))) ht hs
  · have h := hexec hst
    rw [takeClearFault_badArgs (hstate hst) hargs] at h
    exact answered_of_reply h ht hs

/-! ### PARK (R207) -/

section
variable {s u : State} {e : ReqEntry} {r : Request}

theorem takePark_badArgs (hst : u.node.state ≠ .fault) (h : e.args.length ≠ 1) : takePark e u = u.reply e .badArgs := by
  unfold takePark
  rw [if_neg hst, if_pos (by rw [Bool.not_eq_true', Bool.eq_false_iff]; exact mt stationArgOnly_iff.mp h)]

/-- PARK with its argument in READY and RUN. -/
theorem takePark_of_active (hst : u.node.state = .ready ∨ u.node.state = .run) (h : e.args.length = 1) :
    takePark e u = if u.idleFor e then u.beginPark e else u.reply e .notParked := by
  have hargs : ¬(!stationArgOnly e.args) = true := by rw [stationArgOnly_iff.mpr h]; decide
  unfold takePark
  rcases hst with hst | hst
  · rw [if_neg (by rw [hst]; decide), if_neg hargs, hst]
  · rw [if_neg (by rw [hst]; decide), if_neg hargs, hst]

theorem takePark_of_parked (hst : u.node.state = .parked) (h : e.args.length = 1) :
    takePark e u = u.reply e (if u.node.park = .settled then .done else .notParked) := by
  have hargs : ¬(!stationArgOnly e.args) = true := by rw [stationArgOnly_iff.mpr h]; decide
  unfold takePark
  rw [if_neg (by rw [hst]; decide), if_neg hargs, hst]
  by_cases hp : u.node.park = .settled
  · rw [if_pos hp]
    exact (congrArg (fun res => u.reply e res) (if_pos hp)).symm
  · rw [if_neg hp]
    exact (congrArg (fun res => u.reply e res) (if_neg hp)).symm

theorem takePark_of_other (hst : u.node.state = .setup ∨ u.node.state = .stopped) (h : e.args.length = 1) :
    takePark e u = u.reply e .refusedState := by
  have hargs : ¬(!stationArgOnly e.args) = true := by rw [stationArgOnly_iff.mpr h]; decide
  unfold takePark
  rcases hst with hst | hst
  · rw [if_neg (by rw [hst]; decide), if_neg hargs, hst]
  · rw [if_neg (by rw [hst]; decide), if_neg hargs, hst]

theorem State.idleFor_claimed (htable : s.req.table = []) (hop : s.op = none) (hdrv : s.drv.state = .held) :
    (s.claimed r).idleFor (r.entry s.req.nextId) = true := by
  unfold State.idleFor
  rw [State.claimed_table, htable, State.claimed_op, hop, State.claimed_drv, hdrv]
  simp

theorem State.not_idleFor_claimed (hs : s.sound) (h : s.req.table ≠ [] ∨ s.op ≠ none ∨ s.drv.state ≠ .held) :
    (s.claimed r).idleFor (r.entry s.req.nextId) = false := by
  unfold State.idleFor
  rw [State.claimed_table, State.claimed_op, State.claimed_drv]
  rcases h with h | h | h
  · obtain ⟨x, l, hx⟩ := List.exists_cons_of_ne_nil h
    have hne : x.id ≠ s.req.nextId := State.fresh_of_sound hs x (by rw [hx]; exact List.mem_cons_self)
    rw [hx]
    simp [Request.entry, hne]
  · obtain ⟨o, ho⟩ := Option.ne_none_iff_exists'.mp h
    simp [ho]
  · simp [h]

/-- The node as the entry into parking begins, before the change of its state. -/
def State.enteringPark (e : ReqEntry) (s : State) : State :=
  ((s.withNode { s.node with park := .entering, parkTimer := Timer.ms 100, interrupted := false,
                             returnRun := decide (s.node.state = .run) }).withDrv
    { s.drv with supply := false }).setEntry e.id .acting

theorem State.beginPark_eq (e : ReqEntry) (s : State) : s.beginPark e = (s.enteringPark e).setNodeState .parked := rfl

theorem State.beginPark_spec (e : ReqEntry) (u : State) :
    (u.beginPark e).node.state = .parked ∧ (u.beginPark e).node.park = .entering
      ∧ (u.beginPark e).node.parkTimer = Timer.ms 100 ∧ (u.beginPark e).node.returnRun = decide (u.node.state = .run)
      ∧ (u.beginPark e).drv.supply = false ∧ (u.beginPark e).line = u.line
      ∧ (u.beginPark e).req.table = u.req.table.map fun x => if x.id == e.id then { x with state := .acting } else x := by
  rw [State.beginPark_eq, State.setNodeState_node, (State.setNodeState_motion _ _).supply, State.setNodeState_line,
    State.setNodeState_req]
  exact ⟨rfl, rfl, rfl, rfl, rfl, rfl, rfl⟩

end

/-- Settles O52: by the node state, the arguments and whether the node is idle. -/
theorem parkBeginsTheEntryOfAnIdleNode : Obligations.ParkBeginsTheEntryOfAnIdleNode := by
  unfold Obligations.ParkBeginsTheEntryOfAnIdleNode
  intro s r ha ht hs
  have hexec : s.node.state ≠ .fault → exec .park s = .next (takePark (r.entry s.req.nextId) (s.claimed r)).finish :=
    fun hst => exec_request_taken (row := .park) rfl (by decide) ha ht ((gate_park _).trans (if_neg hst))
  have hstate : (s.claimed r).node.state = s.node.state := by rw [State.claimed_node]
  have hnotFault : ∀ {st : NodeState}, st ≠ .fault → s.node.state = st → s.node.state ≠ .fault := fun hne h => h ▸ hne
  refine ⟨fun hargs hst htable hop hdrv => ?_, fun hargs hst hbusy => ?_, fun hargs hst => ?_, fun hargs hst => ?_,
    fun hst => ?_, fun hst hargs => ?_⟩
  · have h := hexec (hst.elim (hnotFault (by decide)) (hnotFault (by decide)))
    rw [takePark_of_active (by rw [hstate]; exact hst) hargs, if_pos (State.idleFor_claimed htable hop hdrv)] at h
    obtain ⟨hparked, hentering, htimer, hreturn, hsupply, hline, hreq⟩ :=
      (s.claimed r).beginPark_spec (r.entry s.req.nextId)
    refine ⟨_, h, ?_, ?_, ?_, ?_, ?_, ?_, ?_⟩
    · rw [State.finish_node]; exact hparked
    · rw [State.finish_node]; exact hentering
    · rw [State.finish_node]; exact htimer
    · rw [State.finish_node, hreturn, State.claimed_node]
    · rw [State.finish_drv]; exact hsupply
    · rw [State.finish_table, hreq, State.claimed_table, htable]
      simp
    · refine State.queued_finish (fun f hf => ?_) fun f hf => ?_
      · rw [List.mem_singleton.mp hf, hline]
        exact State.claimed_queued ht (by decide)
      · rw [List.mem_singleton.mp hf]
        rfl
  · have h := hexec (hst.elim (hnotFault (by decide)) (hnotFault (by decide)))
    rw [takePark_of_active (by rw [hstate]; exact hst) hargs, State.not_idleFor_claimed hs hbusy] at h
    exact answered_of_reply h ht hs
  · have h := hexec (hst.elim (hnotFault (by decide)) (hnotFault (by decide)))
    rw [takePark_of_other (by rw [hstate]; exact hst) hargs] at h
    exact answered_of_reply h ht hs
  · have h := hexec (hnotFault (by decide) hst)
    rw [takePark_of_parked (by rw [hstate]; exact hst) hargs, State.claimed_node] at h
    exact answered_of_reply h ht hs
  · exact answered_of_reply (exec_request_refused (row := .park) rfl (by decide) ha ht
      ((gate_park _).trans (if_pos hst))) ht hs
  · have h := hexec hst
    rw [takePark_badArgs (by rw [hstate]; exact hst) hargs] at h
    exact answered_of_reply h ht hs

/-! ### ASSERT_PICTURE (R20, R21) -/

section
variable {s u : State} {e : ReqEntry} {r : Request} {es : List (Nat × Nat)}

/-- R20, R21: the tracker as a picture that passes its checks leaves it. -/
def State.asserted (es : List (Nat × Nat)) (s : State) : Tracker :=
  let t := { s.trk.rebuild es with residue := s.E - pictureSum es }
  if s.bothGood then { t with state := .tracking } else { t with state := .suspended, es := s.E }

/-- R20: the interlocks of ASSERT_PICTURE. -/
def State.assertable (es : List (Nat × Nat)) (s : State) : Prop :=
  s.trk.state = .unknown ∧ s.strokeAvailable = true ∧ (s.E - pictureSum es).natAbs ≤ s.node.setup.slipTol

theorem takeAssertPicture_badArgs (h : u.readPicture e.args = none) : takeAssertPicture e u = u.reply e .badArgs := by
  unfold takeAssertPicture
  rw [h]

theorem takeAssertPicture_refused (h : u.readPicture e.args = some es) (hnot : ¬u.assertable es) :
    takeAssertPicture e u = u.reply e .refusedInterlock := by
  have hfails : u.trk.state ≠ .unknown ∨ (!u.strokeAvailable) = true
      ∨ (u.E - pictureSum es).natAbs > u.node.setup.slipTol := by
    by_contra hall
    obtain ⟨hstate, havail, htol⟩ := not_or.mp hall |>.imp_right not_or.mp
    exact hnot ⟨not_not.mp hstate, by simpa using havail, Nat.not_lt.mp htol⟩
  unfold takeAssertPicture
  rw [h]
  exact if_pos hfails

theorem takeAssertPicture_done (h : u.readPicture e.args = some es) (hok : u.assertable es) :
    takeAssertPicture e u = ((u.withTrk (u.asserted es)).signal).reply e .done := by
  have hholds : ¬(u.trk.state ≠ .unknown ∨ (!u.strokeAvailable) = true
      ∨ (u.E - pictureSum es).natAbs > u.node.setup.slipTol) := by
    obtain ⟨hstate, havail, htol⟩ := hok
    rw [hstate, havail]
    simpa using htol
  unfold takeAssertPicture
  rw [h]
  exact if_neg hholds

theorem State.claimed_readPicture (r : Request) (s : State) (a : List Byte) :
    (s.claimed r).readPicture a = s.readPicture a := State.claimed_reads (fun s => s.readPicture a) (fun _ _ => rfl) r

theorem State.claimed_asserted (r : Request) (s : State) (es : List (Nat × Nat)) :
    (s.claimed r).asserted es = s.asserted es := State.claimed_reads (State.asserted es) (fun _ _ => rfl) r

theorem State.claimed_assertable (r : Request) (s : State) (es : List (Nat × Nat)) :
    (s.claimed r).assertable es = s.assertable es := State.claimed_reads (State.assertable es) (fun _ _ => rfl) r

/-- R21: the picture asserted, its stack in opening order. -/
theorem State.asserted_picture (es : List (Nat × Nat)) (s : State) :
    (s.asserted es).joints = (s.trk.rebuild es).joints ∧ (s.asserted es).stack = (es.map Prod.fst).reverse
      ∧ (s.asserted es).residue = s.E - pictureSum es := by
  have hstack : (s.trk.rebuild es).stack = (es.map Prod.fst).reverse := by
    rw [Tracker.rebuild_eq, Tracker.stack_openAll]
    exact List.append_nil _
  unfold State.asserted
  dsimp only
  split <;> exact ⟨rfl, hstack, rfl⟩

/-- R20: the tracking state, by the mirrors. -/
theorem State.asserted_state (es : List (Nat × Nat)) (s : State) :
    (s.bothGood = true → (s.asserted es).state = .tracking)
      ∧ (s.bothGood = false → (s.asserted es).state = .suspended ∧ (s.asserted es).es = s.E) := by
  refine ⟨fun h => ?_, fun h => ?_⟩
  · unfold State.asserted
    rw [if_pos h]
  · unfold State.asserted
    rw [if_neg (by rw [h]; decide)]
    exact ⟨rfl, rfl⟩

theorem State.asserted_rest (es : List (Nat × Nat)) (s : State) :
    (s.asserted es).ropeOffset = s.trk.ropeOffset ∧ (s.asserted es).datumOffset = s.trk.datumOffset
      ∧ (s.asserted es).event = s.trk.event := by
  unfold State.asserted
  rw [Tracker.rebuild_rest]
  dsimp only
  split <;> exact ⟨rfl, rfl, rfl⟩

theorem State.asserted_joint (es : List (Nat × Nat)) (s : State) (j : Nat) :
    (s.asserted es).joint j = (s.trk.rebuild es).joint j :=
  congrArg (fun l : List JointRec => l.getD (j - 1) JointRec.closed) (s.asserted_picture es).1

theorem gate_picture {row : Instr} {n : Nat} (hrow : row ∈ [Instr.setDatum, .assertPicture]) (hn : rowFn row = some n)
    (hst : s.node.state = .ready ∨ s.node.state = .run ∨ s.node.state = .stopped) : gate s.node.state n = .taken := by
  obtain ⟨-, hready, hrun, hstopped, -, -⟩ := gate_pictureRows row hrow
  rw [hn] at hready hrun hstopped
  rcases hst with hst | hst | hst <;> rw [hst]
  exacts [Option.some.inj hready, Option.some.inj hrun, Option.some.inj hstopped]

end

/-- Settles O59: by the list and the interlocks. -/
theorem assertedPicturesAreRebuilt : Obligations.AssertedPicturesAreRebuilt := by
  unfold Obligations.AssertedPicturesAreRebuilt
  intro s r ha ht hs hst
  have hexec : exec .assertPicture s = .next (takeAssertPicture (r.entry s.req.nextId) (s.claimed r)).finish :=
    exec_request_taken (row := .assertPicture) rfl (by decide) ha ht
      (gate_picture (row := .assertPicture) (by decide) rfl hst)
  refine ⟨fun hnone => ?_, fun es hes hlen => ⟨fun hholds => ?_, fun hnot => ?_⟩⟩
  · rw [takeAssertPicture_badArgs ((State.claimed_readPicture r s _).trans hnone)] at hexec
    exact answered_of_reply hexec ht hs
  · rw [takeAssertPicture_done ((State.claimed_readPicture r s _).trans hes)
      (by rw [State.claimed_assertable]; exact hholds), State.claimed_asserted] at hexec
    obtain ⟨hlist, hnodup⟩ := State.listable_of_readPicture hes
    have hlist' : Tracker.listable s.node.setup.slide s.trk.cleared.joints.length es := by
      rw [Tracker.joints_length_cleared, hlen]; exact hlist
    obtain ⟨-, hstack, hresidue⟩ := s.asserted_picture es
    obtain ⟨hgood, hbad⟩ := s.asserted_state es
    obtain ⟨hrope, hdatum, hevent⟩ := s.asserted_rest es
    have htrk : (((s.claimed r).withTrk (s.asserted es)).signal.reply (r.entry s.req.nextId) .done).finish.trk
        = s.asserted es := by
      rw [State.finish_trk, State.reply_trk]
      rfl
    have hvia : (s.claimed r).via [.trk, .pub] ((s.claimed r).withTrk (s.asserted es)).signal := by simp
    refine ⟨_, hexec, ?_⟩
    rw [htrk]
    refine ⟨hstack, hresidue, fun x hx => ?_, fun j hj _ hother => ?_, hgood, hbad, hrope, hdatum, hevent,
      State.answers_of_claimed rfl rfl (by simp [State.silenced]) ht hs,
      State.sameBut_answered ht (hvia.mono (by decide)) (by decide) (by decide) _ _ _ _⟩
    · rw [State.asserted_joint]
      exact Tracker.joint_openAll_of_mem hlist' hnodup x hx
    · rw [State.asserted_joint]
      exact (Tracker.joint_openAll_other hlist' hj hother).trans (s.trk.joint_cleared j)
  · rw [takeAssertPicture_refused ((State.claimed_readPicture r s _).trans hes)
      (by rw [State.claimed_assertable]; exact hnot)] at hexec
    exact answered_of_reply hexec ht hs

/-! ### SET_DATUM (R22, R23) -/

section
variable {s u : State} {e : ReqEntry} {r : Request}

/-- R98: the frames that the end of the mode can put in the queue. -/
def State.endFrames (s : State) : Nat :=
  1 + if s.drv.source = some .operation then (s.op.map fun o => o.subs.length).getD 0 else 0

theorem State.endMode_length (res : Result) (why : Reason) (reported : Bool) (s : State) :
    (s.endMode res why reported).line.queue.length ≤ s.line.queue.length + s.endFrames := by
  have hline : s.holdDrive.line = s.line := State.holdDrive_line s
  unfold State.endMode State.endFrames
  dsimp only
  split
  · next id h =>
    have hlen := State.replyTo_length id res why s.holdDrive
    rw [hline] at hlen
    omega
  · next h =>
    split
    · cases hop : s.op with
      | none =>
        have hnone : s.holdDrive.endOp res why = s.holdDrive := by
          unfold State.endOp
          rw [show s.holdDrive.op = none from (State.holdDrive_op s).trans hop]
        rw [hnone, hline]
        exact Nat.le_add_right _ _
      | some o =>
        have hlen := State.endOp_length ((State.holdDrive_op s).trans hop) res why
        rw [hline] at hlen
        exact hlen
    · rw [hline]
      exact Nat.le_add_right _ _
  · rw [hline]
    exact Nat.le_add_right _ _

theorem State.endMode_table_subset (res : Result) (why : Reason) (reported : Bool) (s : State) :
    (s.endMode res why reported).req.table ⊆ s.req.table := by
  have hreq : s.holdDrive.req = s.req := State.holdDrive_req s
  unfold State.endMode
  dsimp only
  rw [← hreq]
  split
  · exact State.replyTo_table_subset _ _ _ _ _
  · split
    · unfold State.endOp
      split
      · exact List.Subset.refl _
      · refine List.Subset.trans (State.closeOp_table_subset _ _ _ _) ?_
        rw [State.giveHold_req]
        exact List.Subset.refl _
    · exact List.Subset.refl _
  · exact List.Subset.refl _

/-- R98: the check of PAY ends the mode, or leaves the state. -/
theorem State.checkPay_cases (room : Bool) (s : State) :
    s.checkPay room = s ∨ ∃ res why reported, s.checkPay room = s.endMode res why reported := by
  unfold State.checkPay
  split
  · split_ifs
    exacts [.inr ⟨_, _, _, rfl⟩, .inr ⟨_, _, _, rfl⟩, .inr ⟨_, _, _, rfl⟩, .inl rfl]
  · exact .inl rfl

theorem State.checkPay_length (room : Bool) (s : State) :
    (s.checkPay room).line.queue.length ≤ s.line.queue.length + s.endFrames
      ∧ (s.checkPay room).req.table ⊆ s.req.table := by
  rcases s.checkPay_cases room with h | ⟨res, why, reported, h⟩ <;> rw [h]
  · exact ⟨Nat.le_add_right _ _, List.Subset.refl _⟩
  · exact ⟨State.endMode_length _ _ _ s, State.endMode_table_subset _ _ _ s⟩

/-- R23: the datum moved, with PAY and the tool judged on the new depth. -/
def State.datumMoved (d : Int) (s : State) : State :=
  (((s.withTrk { s.trk with datumOffset := s.sens.payout - s.trk.ropeOffset - d }).signal).checkPay false).judgeTool

theorem takeSetDatum_badArgs (h : readDepth e.args = none) : takeSetDatum e u = u.reply e .badArgs := by
  unfold takeSetDatum
  rw [h]

theorem takeSetDatum_done {d : Int} (h : readDepth e.args = some d) :
    takeSetDatum e u = (u.datumMoved d).reply e .done := by
  unfold takeSetDatum
  rw [h]
  rfl

theorem State.datumMoved_via (d : Int) (u : State) : u.via ([.trk] ++ Part.ending) (u.datumMoved d) := by
  unfold State.datumMoved
  simp (maxDischargeDepth := 10) [Part.ending, Part.publication]

theorem State.judgeTool_line (u : State) : u.judgeTool.line = u.line :=
  (show u.via [.drv, .pub] u.judgeTool by simp).same .line (by decide)

theorem State.judgeTool_req (u : State) : u.judgeTool.req = u.req :=
  (show u.via [.drv, .pub] u.judgeTool by simp).same .req (by decide)

theorem State.datumMoved_trk (d : Int) (u : State) :
    (u.datumMoved d).trk = { u.trk with datumOffset := u.sens.payout - u.trk.ropeOffset - d } := by
  have hvia : ((u.withTrk { u.trk with datumOffset := u.sens.payout - u.trk.ropeOffset - d }).signal).via Part.ending
      (u.datumMoved d) := by
    unfold State.datumMoved
    simp (maxDischargeDepth := 10) [Part.ending, Part.publication]
  exact hvia.same .trk (by decide)

/-- R98, R172: what the moved datum leaves of the queue and of the table. -/
theorem State.datumMoved_line (d : Int) (u : State) :
    (u.datumMoved d).line.queue.length ≤ u.line.queue.length + u.endFrames ∧ (u.datumMoved d).req.table ⊆ u.req.table
      ∧ u.KeepsFrames (u.datumMoved d) := by
  let v := (u.withTrk { u.trk with datumOffset := u.sens.payout - u.trk.ropeOffset - d }).signal
  obtain ⟨hlen, htable⟩ := v.checkPay_length false
  have hkeeps := State.KeepsFrames.checkPay false v
  have hmoved : u.datumMoved d = (v.checkPay false).judgeTool := rfl
  rw [hmoved, State.judgeTool_line, State.judgeTool_req]
  refine ⟨hlen, htable, fun g hg hk hsub => ?_⟩
  rw [State.judgeTool_line]
  exact hkeeps g hg hk hsub

end

/-- Settles O58: by the depth read. -/
theorem setDatumMovesTheDepth : Obligations.SetDatumMovesTheDepth := by
  unfold Obligations.SetDatumMovesTheDepth
  intro s r ha hs hst
  have hexec : ∀ {k}, s.takesRequest r k → exec .setDatum s
      = .next (takeSetDatum (r.entry s.req.nextId) (s.claimed r)).finish := fun ht =>
    exec_request_taken (row := .setDatum) rfl (by decide) ha ht (gate_picture (row := .setDatum) (by decide) rfl hst)
  refine ⟨fun d hd ht => ?_, fun hnone ht => ?_⟩
  · have h := hexec ht
    rw [takeSetDatum_done hd] at h
    have hvia := (s.claimed r).datumMoved_via d
    have htrk := (s.claimed r).datumMoved_trk d
    obtain ⟨hlen, htable, hkeeps⟩ := (s.claimed r).datumMoved_line d
    have hframes : (s.claimed r).endFrames = s.endFrames := State.claimed_reads State.endFrames (fun _ _ => rfl) r
    rw [State.claimed_trk, State.claimed_sens] at htrk
    have hroom : ((s.claimed r).datumMoved d).hasRoom 1 := by
      have hl := State.claimed_length r s
      have hroom := ht.2.2.2
      refine ⟨?_, ?_⟩
      · rw [State.silenced, hvia.same .node (by decide), State.claimed_node]
        exact ht.2.2.1
      · rw [hframes, State.endFrames] at hlen
        omega
    have hall : s.via ([.rx, .trk] ++ Part.ending) ((s.claimed r).datumMoved d) :=
      ((State.claimed_via ht).mono (by decide)).trans (hvia.mono (by decide))
    generalize hv : (s.claimed r).datumMoved d = v at h hvia htrk hlen htable hkeeps hroom hall
    have hend : s.via ([.rx, .trk] ++ Part.ending) (v.reply (r.entry s.req.nextId) .done).finish :=
      State.via_finish (hall.trans ((v.reply_via _ _ _ _).mono (by decide))) (by decide) (by decide)
    have htrk' : (v.reply (r.entry s.req.nextId) .done).finish.trk
        = { s.trk with datumOffset := s.sens.payout - s.trk.ropeOffset - d } := by
      rw [State.finish_trk, State.reply_trk, htrk]
    refine ⟨_, h, ?_, ?_, htrk', ?_, fun x hx => ?_, hend.same .node (by decide)⟩
    · rw [State.D, hend.same .sens (by decide), htrk']
      change s.sens.payout - s.trk.ropeOffset - (s.sens.payout - s.trk.ropeOffset - d) = d
      omega
    · exact State.E_via hend (by decide) (by decide) (by decide) (by rw [htrk'])
    · refine State.queued_finish (fun f hf => ?_) fun f hf => ?_
      · rcases List.mem_cons.mp hf with rfl | hf
        · exact State.mem_offerAll_of_mem _ _ _ (hkeeps _ (State.claimed_queued ht (by omega)) rfl
            (State.claimOfRequest_owner s r)) rfl
        · exact State.queued_reply hroom (r.entry s.req.nextId) .done .noReason f hf
      · rcases List.mem_cons.mp hf with rfl | hf
        exacts [rfl, replyFrames_not_publish hf]
    · rw [State.finish_table, State.reply_table] at hx
      obtain ⟨hx, hne⟩ := List.mem_filter.mp hx
      have hmem := htable hx
      rw [State.claimed_table] at hmem
      rcases List.mem_append.mp hmem with hmem | hmem
      · exact hmem
      · rw [List.mem_singleton.mp hmem] at hne
        simp at hne
  · have h := hexec ht
    rw [takeSetDatum_badArgs hnone] at h
    exact answered_of_reply h ht hs

/-! ### The default claimant (R180, R181) -/

section
variable {s u : State} {f : RxFrame} {r : Request}

theorem State.makeRoom_of_room (h : s.req.defaults.length < 8) : s.makeRoom = s := by
  unfold State.makeRoom
  split
  · rfl
  · exact if_neg (Nat.not_le.mpr h)

theorem State.makeRoom_of_full {r0 : DefaultRec} {rest : List DefaultRec} (h : s.req.defaults = r0 :: rest)
    (hfull : 7 ≤ rest.length) : s.makeRoom = (s.dropRecord r0.id).withdraw (Producer.ofRecord r0.id) := by
  unfold State.makeRoom
  rw [h]
  exact if_pos (by simpa using hfull)

/-- R180: the WATCHING record of a REQUEST handled after a wait. -/
def State.watching (f : RxFrame) (r : Request) (s : State) : DefaultRec :=
  { id := s.req.nextId, requester := r.requester, tag := r.tag, fn := r.fn, fast := s.windowLeft 400 f.waited,
    slow := s.windowLeft 1200 f.waited, status := .watching }

/-- R180: a record added behind the others. -/
def State.addRecord (x : DefaultRec) (s : State) : State :=
  s.withReq { s.req with defaults := s.req.defaults ++ [x], nextId := s.req.nextId + 1 }

theorem State.watchRequest_of_watched (hf : f.request? = some r) (hdflt : s.node.straps.dflt = true)
    (hclaims : s.claims true = true) (hqual : r.qual ≠ qualBroadcast) :
    s.watchRequest f = s.makeRoom.addRecord (s.makeRoom.watching f r) := by
  unfold State.watchRequest
  rw [hf]
  exact if_pos ⟨hqual, hdflt, hclaims⟩

theorem State.watchRequest_of_ignored (hf : f.request? = some r)
    (h : s.node.straps.dflt = false ∨ s.claims true = false ∨ r.qual = qualBroadcast) : s.watchRequest f = s := by
  unfold State.watchRequest
  rw [hf]
  refine if_neg fun ⟨hqual, hdflt, hclaims⟩ => ?_
  rcases h with h | h | h
  · exact absurd (h.symm.trans hdflt) (by decide)
  · exact absurd (h.symm.trans hclaims) (by decide)
  · exact hqual h

/-- R180: an event that makes a record signals nothing. -/
theorem exec_unownedRequest_of_heads (hh : s.heads .unownedRequest f) (hs : s.settled) :
    exec .unownedRequest s = .next (s.dropHeld.watchRequest f) := by
  have hvia : s.via [.rx, .line, .req] (s.dropHeld.watchRequest f) :=
    State.via_watchRequest (s.dropHeld_via.mono (by decide)) (by decide) (by decide) f
  exact handled_unsignalled hh hs (hvia.same .pub (by decide))

theorem State.makeRoom_table (s : State) : s.makeRoom.req.table = s.req.table := by
  unfold State.makeRoom
  split
  · rfl
  · split <;> rfl

/-- R180: the record of a REQUEST that a claiming node with the strap does not own. -/
theorem unownedRequest_watched (hh : s.heads .unownedRequest f) (hf : f.request? = some r) (hs : s.settled)
    (hdflt : s.node.straps.dflt = true) (hclaims : s.claims true = true) (hqual : r.qual ≠ qualBroadcast) :
    ∃ t x, exec .unownedRequest s = .next t
      ∧ (s.req.defaults.length < 8 → t.req.defaults = s.req.defaults ++ [x] ∧ t.line.queue = s.line.queue)
      ∧ (∀ r0 rest, s.req.defaults = r0 :: rest → 7 ≤ rest.length →
          t.req.defaults = rest.filter (fun x => x.id != r0.id) ++ [x]
            ∧ t.line.queue = s.line.queue.filter (fun g => g.owner.record != some r0.id)
            ∧ ∀ g, s.line.shifter = some g → g.owner.record = some r0.id →
                t.line.shifter = some { g with withdrawn := true })
      ∧ x.requester = r.requester ∧ x.tag = r.tag ∧ x.fn = r.fn ∧ x.status = .watching
      ∧ x.fast = some (400 * s.bitUs - f.waited) ∧ x.slow = some (1200 * s.bitUs - f.waited)
      ∧ t.req.table = s.req.table ∧ s.sameBut [.rx, .line, .req] t := by
  have hact : s.dropHeld.watchRequest f = s.dropHeld.makeRoom.addRecord (s.dropHeld.makeRoom.watching f r) :=
    State.watchRequest_of_watched hf hdflt hclaims hqual
  have hvia : s.via [.rx, .line, .req] (s.dropHeld.watchRequest f) :=
    State.via_watchRequest (s.dropHeld_via.mono (by decide)) (by decide) (by decide) f
  have hroom : s.via [.rx, .line, .req] s.dropHeld.makeRoom :=
    State.via_makeRoom (s.dropHeld_via.mono (by decide)) (by decide) (by decide)
  have hbit : s.dropHeld.makeRoom.bitUs = s.bitUs := by
    rw [State.bitUs, hroom.same .node (by decide)]
    rfl
  have hexec := exec_unownedRequest_of_heads hh hs
  rw [hact] at hexec hvia
  refine ⟨_, s.dropHeld.makeRoom.watching f r, hexec, fun hlen => ?_, fun r0 rest hdef hfull => ?_, rfl, rfl, rfl, rfl, ?_, ?_,
    s.dropHeld.makeRoom_table, hvia.1⟩
  · rw [State.makeRoom_of_room (s := s.dropHeld) hlen]
    exact ⟨rfl, rfl⟩
  · rw [State.makeRoom_of_full (s := s.dropHeld) hdef hfull]
    have hdrop : s.req.defaults.filter (fun x => x.id != r0.id) = rest.filter fun x => x.id != r0.id := by
      rw [hdef, List.filter_cons_of_neg (by simp)]
    refine ⟨congrArg (· ++ [_]) hdrop, rfl, fun g hg hrec => ?_⟩
    change s.line.shifter.map _ = _
    rw [hg]
    exact congrArg some (if_pos (beq_iff_eq.mpr hrec))
  · rw [← hbit]
    rfl
  · rw [← hbit]
    rfl

end

section
variable {s : State} {n : Nat} {r : DefaultRec}

/-- The records with the one of a number changed. -/
def State.mapRecord (n : Nat) (g : DefaultRec → DefaultRec) (s : State) : State :=
  s.withReq { s.req with defaults := s.req.defaults.map fun x => if x.id == n then g x else x }

theorem State.mapRecord_via (n : Nat) (g : DefaultRec → DefaultRec) (s : State) : s.via [.req] (s.mapRecord n g) :=
  State.via_mapDefaults (State.via_refl _ s) (by decide) _

theorem State.recordOf_mapRecord {g : DefaultRec → DefaultRec} (hg : ∀ x, (g x).id = x.id) (n : Nat) (s : State) :
    (s.mapRecord n g).recordOf n = (s.recordOf n).map g :=
  find?_map_update (p := fun x : DefaultRec => x.id == n) (fun x => by rw [hg]) s.req.defaults

/-- R181: a record whose fast window has ended. -/
def DefaultRec.fastEnded (r : DefaultRec) : DefaultRec := { r with fast := none }

/-- R181: a record whose DEFAULT CLAIM is queued. -/
def DefaultRec.claiming (r : DefaultRec) : DefaultRec := { r with status := .claimQueued }

theorem State.fastEnds_of_watching (hid : r.id = n) (h : r.status = .watching) (s : State) :
    s.fastEnds r = ((s.mapRecord n DefaultRec.fastEnded).mapRecord n DefaultRec.claiming).offer
      (claimFrame (.defaultClaim r.id) r.requester r.tag r.fn 1) := by
  subst hid
  exact if_pos h

theorem State.fastEnds_of_other (hid : r.id = n) (h : r.status ≠ .watching) (s : State) :
    s.fastEnds r = s.mapRecord n DefaultRec.fastEnded := by
  subst hid
  exact if_neg h

theorem exec_fastWindowEnd_of_runs (h : s.recordOf n = some r) (hruns : r.fast.isSome = true) :
    exec (.fastWindowEnd n) s = .next (s.fastEnds r).finish := by
  have hact : s.fastWindowOut n = s.fastEnds r := by
    unfold State.fastWindowOut
    rw [h]
  change taken (((s.recordOf n).map fun r => r.fast.isSome).getD false) (State.fastWindowOut n) s = _
  rw [taken_of_occurs _ s (by rw [h]; exact hruns), hact]

theorem exec_defaultSlowWindowEnd_of_runs (h : s.recordOf n = some r) (hruns : r.slow.isSome = true) :
    exec (.defaultSlowWindowEnd n) s = .next (s.slowEnds n).finish := by
  change taken (((s.recordOf n).map fun r => r.slow.isSome).getD false) (State.slowEnds n) s = _
  exact taken_of_occurs _ s (by rw [h]; exact hruns)

/-- R181: the fast window of a WATCHING record. -/
theorem fastWindowEnd_claims (h : s.recordOf n = some r) (hruns : r.fast.isSome = true) (hwatch : r.status = .watching)
    (hroom : s.hasRoom 1) : ∃ t, exec (.fastWindowEnd n) s = .next t
      ∧ t.queued [claimFrame (.defaultClaim r.id) r.requester r.tag r.fn 1]
      ∧ t.recordOf n = some { r with fast := none, status := .claimQueued } ∧ s.sameBut [.req, .line, .pub] t := by
  let v := (s.mapRecord n DefaultRec.fastEnded).mapRecord n DefaultRec.claiming
  let claim := claimFrame (.defaultClaim r.id) r.requester r.tag r.fn 1
  have hexec := exec_fastWindowEnd_of_runs h hruns
  rw [State.fastEnds_of_watching (State.id_of_recordOf h) hwatch] at hexec
  obtain ⟨hsil, hlen⟩ := hroom
  have hv : s.via [.req] v := (s.mapRecord_via n _).trans (State.mapRecord_via n _ _)
  have hline : v.line = s.line := hv.same .line (by decide)
  have hoffer : v.offer claim = v.withQueue (enterAtTail claim v.line.queue) := State.offer_of_room
    (by rw [State.silenced, hv.same .node (by decide)]; exact hsil) (by rw [hline]; omega) rfl
  have hrecord : v.recordOf n = some { r with fast := none, status := .claimQueued } := by
    rw [State.recordOf_mapRecord (g := DefaultRec.claiming) (fun _ => rfl),
      State.recordOf_mapRecord (g := DefaultRec.fastEnded) (fun _ => rfl), h]
    rfl
  have hend : s.via [.req, .line, .pub] (v.offer claim) :=
    State.via_offer (hv.mono (by decide)) (by decide) (by decide) claim
  refine ⟨_, hexec, State.queued_finish (fun f hf => ?_) fun f hf => ?_, ?_,
    State.sameBut_finish hend (by decide) (by decide)⟩
  · change f ∈ (v.offer claim).line.queue
    rw [List.mem_singleton.mp hf, hoffer]
    exact (enters_tail.mem claim _ claim).mpr (.inl rfl)
  · rw [List.mem_singleton.mp hf]
    rfl
  · rw [State.recordOf_of_req (State.finish_req _)]
    change (v.offer claim).recordOf n = _
    rw [hoffer]
    exact hrecord

end

/-- Settles O49: the records made, and the ends of their windows. -/
theorem defaultClaimantWatchesClaimsAndDrops : Obligations.DefaultClaimantWatchesClaimsAndDrops := by
  unfold Obligations.DefaultClaimantWatchesClaimsAndDrops
  refine ⟨fun s f r hh hf hs => ⟨fun hdflt hclaims hqual => unownedRequest_watched hh hf hs hdflt hclaims hqual,
    fun h => ?_⟩, fun s n r h => ⟨fun hruns hwatch hroom => fastWindowEnd_claims h hruns hwatch hroom,
    fun hruns hnot => ?_, fun hruns => ?_⟩⟩
  · have hact : s.dropHeld.watchRequest f = s.dropHeld := State.watchRequest_of_ignored hf h
    rw [exec_unownedRequest_of_heads hh hs, hact]
  · have hexec := exec_fastWindowEnd_of_runs h hruns
    rw [State.fastEnds_of_other (State.id_of_recordOf h) hnot] at hexec
    refine ⟨_, hexec, ?_, State.sameBut_finish ((s.mapRecord_via n _).mono (by decide)) (by decide) (by decide)⟩
    rw [State.recordOf_of_req (State.finish_req _), State.recordOf_mapRecord (g := DefaultRec.fastEnded) (fun _ => rfl), h]
    rfl
  · have hvia : s.via [.req, .line, .pub] (s.slowEnds n) := State.via_slowEnds (State.via_refl _ s) (by decide) (by decide) n
    refine ⟨_, exec_defaultSlowWindowEnd_of_runs h hruns, ?_, fun g hg hrec => ?_,
      State.sameBut_finish hvia (by decide) (by decide)⟩
    · rw [State.recordOf_of_req (State.finish_req _)]
      exact State.recordOf_dropRecord n s
    · rcases State.mem_finish_or hg with rfl | hg
      · cases hrec
      · have hnot := (List.mem_filter.mp hg).2
        rw [Producer.ofRecord, hrec] at hnot
        simp at hnot

end Sys2Proof.Machine

/-! ## Motion and operation requests accepted (R49, R59, R80)

First what acted before is superseded: the direct motion request is replied, or the operation ends, wound down; the
REQUEST then acts on that state. -/

namespace Sys2Proof.Machine

section
variable {s u v t : State} {r : Request} {n : Nat} {e : ReqEntry} {o : OpRecord}

/-- R49, R80: what acted is superseded. -/
def State.displaced (s : State) : State := (s.displaceOp .superseded .noReason).supersedeDirect

theorem State.displaced_of_idle (hop : s.op = none) (hsource : s.drv.sourceEntry = none) : s.displaced = s := by
  have hdisplace : s.displaceOp .superseded .noReason = s := by
    unfold State.displaceOp
    rw [hop]
  rw [State.displaced, hdisplace, State.supersedeDirect, hsource]

theorem State.displaced_of_request (hop : s.op = none) (hsource : s.drv.source = some (.request e.id))
    (hentry : s.entryOf e.id = some e) : s.displaced = s.reply e .superseded := by
  have hdisplace : s.displaceOp .superseded .noReason = s := by
    unfold State.displaceOp
    rw [hop]
  have hsourceEntry : s.drv.sourceEntry = some e.id := by rw [Drive.sourceEntry, hsource]
  rw [State.displaced, hdisplace, State.supersedeDirect, hsourceEntry]
  exact State.replyTo_of_entry hentry _ _ _

theorem State.displaced_of_op (hop : s.op = some o) (hsource : s.drv.sourceEntry = none) :
    s.displaced = s.closeOp o true (some (.superseded, .noReason)) := by
  have hdisplace : s.displaceOp .superseded .noReason = s.closeOp o true (some (.superseded, .noReason)) := by
    unfold State.displaceOp
    rw [hop]
  have hdrv : (s.closeOp o true (some (.superseded, .noReason))).drv = s.drv :=
    (State.closeOp_via _ _ _ s).same .drv (by decide)
  rw [State.displaced, hdisplace, State.supersedeDirect, hdrv, hsource]

/-- The claimed REQUEST once what acted is superseded: its entry stands behind the entries `left`, its CLAIM is queued,
and there is room for `n` more frames. -/
structure State.MadeWay (ps : List Part) (left : List ReqEntry) (n : Nat) (r : Request) (s v : State) : Prop where
  table : v.req.table = left ++ [r.entry s.req.nextId]
  fresh : ∀ x ∈ left, x.id ≠ s.req.nextId
  claim : s.claimOfRequest r ∈ v.line.queue
  room : v.hasRoom n
  op : v.op = none
  via : s.via ps v

theorem State.madeWay_of_idle (hs : s.sound) (hop : s.op = none) (hsource : s.drv.sourceEntry = none)
    (ht : s.takesRequest r (1 + n)) : s.MadeWay [.rx, .line, .req] s.req.table n r (s.claimed r).displaced := by
  rw [State.displaced_of_idle ((State.claimed_op r s).trans hop) (by rw [State.claimed_drv]; exact hsource)]
  exact ⟨State.claimed_table r s, State.fresh_of_sound hs, State.claimed_queued ht (Nat.le_add_right 1 n),
    State.claimed_hasRoom (by rw [Nat.add_comm]; exact ht), (State.claimed_op r s).trans hop, State.claimed_via ht⟩

theorem State.mem_of_entryOf {id : Nat} (h : s.entryOf id = some e) : e ∈ s.req.table := List.mem_of_find?_eq_some h

/-- The entry of a REQUEST stays when another is replied. -/
theorem State.claimed_table_without (hs : s.sound) (he : e ∈ s.req.table) :
    (s.claimed r).req.table.filter (fun x => x.id != e.id)
      = s.req.table.filter (fun x => x.id != e.id) ++ [r.entry s.req.nextId] := by
  have hne : s.req.nextId ≠ e.id := (State.fresh_of_sound hs e he).symm
  rw [State.claimed_table, List.filter_append]
  congr 1
  exact List.filter_cons_of_pos (by simpa [Request.entry] using hne)

theorem State.madeWay_of_request (hs : s.sound) (hop : s.op = none) (hsource : s.drv.source = some (.request e.id))
    (hentry : s.entryOf e.id = some e) (ht : s.takesRequest r (2 + n)) :
    s.MadeWay [.rx, .line, .req] (s.req.table.filter fun x => x.id != e.id) n r (s.claimed r).displaced
      ∧ (s.claimed r).displaced.replied e .superseded .noReason := by
  have hroom : (s.claimed r).hasRoom (1 + n) := State.claimed_hasRoom (by rw [Nat.add_right_comm]; exact ht)
  rw [State.displaced_of_request ((State.claimed_op r s).trans hop) (by rw [State.claimed_drv]; exact hsource)
    (State.claimed_entryOf hentry r)]
  refine ⟨⟨?_, fun x hx => State.fresh_of_sound hs x (List.mem_filter.mp hx).1, ?_, ⟨?_, ?_⟩, ?_, ?_⟩,
    State.reply_replied e .superseded .noReason _ (hroom.mono (Nat.le_add_right 1 n))⟩
  · rw [State.reply_table, State.claimed_table_without hs (State.mem_of_entryOf hentry)]
  · exact State.mem_offerAll_of_mem _ _ _ (State.claimed_queued ht (by omega)) rfl
  · rw [State.silenced, State.reply_node]
    exact hroom.1
  · have hlen := State.reply_length e .superseded .noReason (s.claimed r)
    have hmax := hroom.2
    omega
  · rw [State.reply_op, State.claimed_op, hop]
  · exact (State.claimed_via ht).trans ((State.reply_via _ _ _ _ _).mono (by decide))

theorem State.madeWay_of_op (hs : s.sound) (h : s.runsFor o e) (hsource : s.drv.sourceEntry = none)
    (ht : s.takesRequest r (2 + o.subs.length + n)) :
    s.MadeWay [.rx, .line, .req, .pub, .op] (s.req.table.filter fun x => x.id != e.id) n r (s.claimed r).displaced
      ∧ (s.claimed r).displaced.replied e .superseded .noReason ∧ s.woundDown o.subs (s.claimed r).displaced := by
  have hruns := State.claimed_runsFor h (ht.mono (by omega))
  obtain ⟨hop, hentry, -⟩ := hruns
  have hroom : (s.claimed r).hasRoom (1 + o.subs.length + n) :=
    State.claimed_hasRoom (by rw [show 1 + o.subs.length + n + 1 = 2 + o.subs.length + n by omega]; exact ht)
  rw [State.displaced_of_op hop (by rw [State.claimed_drv]; exact hsource)]
  have hvia := State.closeOp_via o true (some (.superseded, .noReason)) (s.claimed r)
  refine ⟨⟨?_, fun x hx => State.fresh_of_sound hs x (List.mem_filter.mp hx).1, ?_, ⟨?_, ?_⟩, State.closeOp_op _ _ _ _, ?_⟩,
    State.closeOp_replied hentry (hroom.mono (by omega)), ?_⟩
  · rw [State.closeOp_table hentry, State.claimed_table_without hs (State.mem_of_entryOf h.2.1)]
  · exact State.KeepsFrames.closeOp o true _ _ _ (State.claimed_queued ht (by omega)) rfl (State.claimOfRequest_owner s r)
  · rw [State.silenced, hvia.same .node (by decide)]
    exact hroom.1
  · have hlen := State.closeOp_length o true .superseded .noReason (s.claimed r)
    have hmax := hroom.2
    omega
  · exact ((State.claimed_via ht).mono (by decide)).trans (hvia.mono (by decide))
  · have hwound := State.closeOp_woundDown (o := o) (windDown := true) (some (.superseded, .noReason))
      fun _ => hroom.mono (Nat.le_trans (Nat.le_add_left _ 1) (Nat.le_add_right _ n))
    rw [if_pos rfl] at hwound
    exact State.woundDownBut_of_eq hwound (State.claimed_tagCtr ht (by omega)) (by rw [State.claimed_node])
      (State.claimed_shifter r s)

theorem State.MadeWay.acting {ps : List Part} {left : List ReqEntry} (h : s.MadeWay ps left n r v) (st : EntryState) :
    (v.setEntry s.req.nextId st).req.table = left ++ [{ r.entry s.req.nextId with state := st }] := by
  have hleft : left.map (fun x => if x.id == s.req.nextId then { x with state := st } else x) = left := by
    conv_rhs => rw [← List.map_id left]
    exact List.map_congr_left fun x hx => if_neg (by simpa using h.fresh x hx)
  change v.req.table.map (fun x => if x.id == s.req.nextId then { x with state := st } else x) = _
  rw [h.table, List.map_append, hleft]
  congr 1
  exact congrArg (fun x => [x]) (if_pos (by simp [Request.entry]))

theorem State.accept_eq (e : ReqEntry) (m : Mode) (hm : m ≠ .hold) (u : State) :
    u.accept e m = ((u.displaced.setEntry e.id .acting).driveTakes m (.request e.id)).enterIfActive := by
  unfold State.accept State.displaced
  cases m <;> first | exact absurd rfl hm | rfl

theorem State.accept_hold (e : ReqEntry) (u : State) : u.accept e .hold = u.displaced.acceptHold e := rfl

/-! ### HOLD requests (R80, R82) -/

/-- R82: the drive of a HOLD request that waits for the set. -/
def State.holdsFor (id : Nat) (s : State) : State :=
  ((s.setEntry id .acting).holdDrive).withDrv { ((s.setEntry id .acting).holdDrive).drv with source := some (.request id) }

theorem State.acceptHold_of_held (h : u.drv.state = .held) : u.acceptHold e = u.holdDrive.reply e .done := if_pos h

theorem State.acceptHold_of_moving (h : u.drv.state ≠ .held) : u.acceptHold e = u.holdsFor e.id := if_neg h

theorem State.holdsFor_drv (id : Nat) (u : State) :
    u.drv.wentToHold u.node.setup.brakeSet (u.holdsFor id).drv ∧ (u.holdsFor id).drv.source = some (.request id) :=
  ⟨(u.setEntry id .acting).holdDrive_wentToHold, rfl⟩

theorem State.holdsFor_line (id : Nat) (u : State) : (u.holdsFor id).line = u.line := State.holdDrive_line _

theorem State.holdsFor_req (id : Nat) (u : State) : (u.holdsFor id).req = (u.setEntry id .acting).req :=
  State.holdDrive_req _

theorem State.holdsFor_op (id : Nat) (u : State) : (u.holdsFor id).op = u.op := State.holdDrive_op _

theorem State.setEntry_replied {id : Nat} {st : EntryState} {res : Result} {why : Reason}
    (h : v.replied e res why) : (v.setEntry id st).replied e res why := by
  refine ⟨fun x hx => ?_, h.2⟩
  obtain ⟨y, hy, rfl⟩ := List.mem_map.mp hx
  have hne := h.1 y hy
  split
  · exact hne
  · exact hne

/-- R80, R82: a HOLD request accepted by a drive that is not HELD. -/
theorem State.MadeWay.hold_waits {ps : List Part} {left : List ReqEntry} (h : s.MadeWay ps left n r v)
    (hdrv : Part.drv ∉ ps) (hset : Part.setup ∉ ps) (hmoving : s.drv.state ≠ .held) :
    (v.acceptHold (r.entry s.req.nextId)).finish.queued [s.claimOfRequest r]
      ∧ (v.acceptHold (r.entry s.req.nextId)).finish.req.table
          = left ++ [{ r.entry s.req.nextId with state := .acting }]
      ∧ s.drv.wentToHold s.node.setup.brakeSet (v.acceptHold (r.entry s.req.nextId)).finish.drv
      ∧ (v.acceptHold (r.entry s.req.nextId)).finish.drv.source = some (.request s.req.nextId) := by
  have hvdrv : v.drv = s.drv := h.via.same .drv hdrv
  have hsetup : v.node.setup = s.node.setup := (h.via.same .setup hset).1
  obtain ⟨hhold, hsource⟩ := v.holdsFor_drv s.req.nextId
  rw [State.acceptHold_of_moving (by rw [hvdrv]; exact hmoving)]
  change (v.holdsFor s.req.nextId).finish.queued _ ∧ (v.holdsFor s.req.nextId).finish.req.table = _
    ∧ s.drv.wentToHold _ (v.holdsFor s.req.nextId).finish.drv ∧ (v.holdsFor s.req.nextId).finish.drv.source = _
  rw [State.finish_table, State.finish_drv, State.holdsFor_req, h.acting]
  rw [hvdrv, hsetup] at hhold
  refine ⟨State.queued_finish (fun f hf => ?_) fun f hf => ?_, rfl, hhold, hsource⟩
  · rw [List.mem_singleton.mp hf, State.holdsFor_line]
    exact h.claim
  · rw [List.mem_singleton.mp hf]
    rfl

/-- A HOLD request that waits keeps the replies and the wind-down of what it superseded. -/
theorem State.holdsFor_keeps (id : Nat) {res : Result} {why : Reason} (h : v.replied e res why) :
    (v.holdsFor id).finish.replied e res why ∧ State.Queues TxFrame.notSubRequest v (v.holdsFor id).finish := by
  have hline := v.holdsFor_line id
  have hreplied : (v.holdsFor id).replied e res why := by
    have hentry := State.setEntry_replied (id := id) (st := .acting) h
    unfold State.replied State.queued at *
    rw [State.holdsFor_req, hline]
    exact hentry
  exact ⟨State.replied_finish hreplied, (State.Queues.of_line hline).trans (State.Queues.finished _)⟩

theorem State.MadeWay.hold_done {ps : List Part} {left : List ReqEntry} (h : s.MadeWay ps left n r v) (hn : 1 ≤ n)
    (hdrv : Part.drv ∉ ps) (hset : Part.setup ∉ ps) (hheld : s.drv.state = .held) :
    (v.acceptHold (r.entry s.req.nextId)).finish = (v.holdDrive.reply (r.entry s.req.nextId) .done).finish
      ∧ (v.acceptHold (r.entry s.req.nextId)).finish.queued (s.claimOfRequest r
          :: replyFrames .requestUnit r.requester r.tag r.fn .done .noReason [])
      ∧ s.drv.wentToHold s.node.setup.brakeSet (v.acceptHold (r.entry s.req.nextId)).finish.drv := by
  have hvdrv : v.drv = s.drv := h.via.same .drv hdrv
  have hsetup : v.node.setup = s.node.setup := (h.via.same .setup hset).1
  have hhold := v.holdDrive_wentToHold
  rw [hvdrv, hsetup] at hhold
  rw [State.acceptHold_of_held (by rw [hvdrv]; exact hheld), State.finish_drv, State.reply_drv]
  refine ⟨rfl, State.queued_finish (fun f hf => ?_) fun f hf => ?_, hhold⟩
  · rcases List.mem_cons.mp hf with rfl | hf
    · exact State.mem_offerAll_of_mem _ _ _ (by rw [State.holdDrive_line]; exact h.claim) rfl
    · exact State.queued_reply (State.hasRoom_of_eq (h.room.mono hn) (by rw [State.holdDrive_node])
        (by rw [State.holdDrive_line])) (r.entry s.req.nextId) .done .noReason f hf
  · rcases List.mem_cons.mp hf with rfl | hf
    exacts [rfl, replyFrames_not_publish hf]

end

/-- A HOLD request in RUN reaches its acceptance. -/
theorem exec_holdRequest {s : State} {row : Instr} {r : Request} {k : Nat}
    (hrow : row ∈ [Instr.winchMove, .crowdMove, .rotaryMove]) (ha : s.asks row r) (ht : s.takesRequest r k)
    (hrun : s.node.state = .run) (hmode : modeAsked row s.node.setup r.args = some .hold) :
    exec row s = .next ((s.claimed r).displaced.acceptHold (r.entry s.req.nextId)).finish := by
  have hmotion : row ∈ motionRows := by
    simp only [List.mem_cons, List.not_mem_nil, or_false] at hrow
    rcases hrow with rfl | rfl | rfl <;> decide
  rw [exec_motion hmotion ha ht hrun, hmode, Option.elim_some, State.takeDirect_of_holds rfl, State.accept_hold]

/-- Settles O55: by what acted before and the state of the drive. -/
theorem holdRequestsSetTheBrake : Obligations.HoldRequestsSetTheBrake := by
  unfold Obligations.HoldRequestsSetTheBrake
  intro s row r hrow ha ht hs hrun hmode
  have hexec := exec_holdRequest hrow ha ht hrun hmode
  refine ⟨fun hop hsource hheld => ?_, fun hop hsource hmoving => ?_, fun e hop hsource hentry hmoving => ?_,
    fun o e hruns hsource ht' => ?_⟩
  · have hway := State.madeWay_of_idle (n := 1) hs hop hsource ht
    obtain ⟨heq, hqueued, hhold⟩ := hway.hold_done le_rfl (by decide) (by decide) hheld
    refine ⟨_, hexec, ⟨?_, hqueued⟩, hhold⟩
    rw [heq, State.finish_table, State.reply_table, State.holdDrive_req, hway.table, List.filter_append,
      List.filter_eq_self.mpr fun x hx => by simpa [Request.entry] using hway.fresh x hx]
    simp
  · have hway := State.madeWay_of_idle (n := 1) hs hop hsource ht
    exact ⟨_, hexec, hway.hold_waits (by decide) (by decide) hmoving⟩
  · obtain ⟨hway, hreplied⟩ := State.madeWay_of_request (n := 0) hs hop hsource hentry ht
    obtain ⟨hqueued, -, hhold, hfrom⟩ := hway.hold_waits (by decide) (by decide) hmoving
    have hdrv : (s.claimed r).displaced.drv = s.drv := hway.via.same .drv (by decide)
    refine ⟨_, hexec, hqueued, ?_, hhold, hfrom⟩
    rw [State.acceptHold_of_moving (by rw [hdrv]; exact hmoving)]
    exact (State.holdsFor_keeps _ hreplied).1
  · obtain ⟨hway, hreplied, hwound⟩ := State.madeWay_of_op (n := 1) hs hruns hsource
      (by rw [show 2 + o.subs.length + 1 = 3 + o.subs.length by omega]; exact ht')
    have hdrv : (s.claimed r).displaced.drv = s.drv := hway.via.same .drv (by decide)
    by_cases hheld : s.drv.state = .held
    · obtain ⟨heq, hqueued, hhold⟩ := hway.hold_done le_rfl (by decide) (by decide) hheld
      obtain ⟨hclaim, hdone⟩ := List.forall_mem_cons.mp hqueued
      let u := (s.claimed r).displaced.holdDrive
      have hline : u.line = (s.claimed r).displaced.line := State.holdDrive_line _
      have hqueues : State.Queues TxFrame.notSubRequest (s.claimed r).displaced
          (u.reply (r.entry s.req.nextId) .done).finish :=
        ((State.Queues.of_line hline).trans (State.Queues.reply _ _ _ _ u)).trans (State.Queues.finished _)
      have htable : (u.reply (r.entry s.req.nextId) .done).finish.req.table ⊆ (s.claimed r).displaced.req.table := by
        rw [State.finish_table, ← show u.req = (s.claimed r).displaced.req from State.holdDrive_req _]
        exact State.reply_table_subset _ _ _ _ u
      refine ⟨_, hexec, List.forall_mem_singleton.mpr hclaim, ?_, ?_, ?_, hhold, fun _ => hdone, fun h => absurd hheld h⟩
      · rw [heq, State.finish_op, State.reply_op, State.holdDrive_op]
        exact hway.op
      · rw [heq]
        exact hqueues.replied hreplied htable
      · rw [heq]
        exact State.woundDown.queues hwound hqueues
    · obtain ⟨hqueued, -, hhold, hfrom⟩ := hway.hold_waits (by decide) (by decide) hheld
      have heq : (s.claimed r).displaced.acceptHold (r.entry s.req.nextId)
          = (s.claimed r).displaced.holdsFor s.req.nextId :=
        State.acceptHold_of_moving (by rw [hdrv]; exact hheld)
      obtain ⟨hkept, hqueues⟩ := State.holdsFor_keeps s.req.nextId hreplied
      refine ⟨_, hexec, hqueued, ?_, ?_, ?_, hhold, fun h => absurd h hheld, fun _ => hfrom⟩
      · rw [heq, State.finish_op, State.holdsFor_op]
        exact hway.op
      · rw [heq]
        exact hkept
      · rw [heq]
        exact State.woundDown.queues hwound hqueues

/-! ### The drive takes a mode (R81) -/

section
variable {s t u v w : State} {r : Request} {n : Nat} {e : ReqEntry} {o : OpRecord} {m : Mode}

/-- What reads neither the Line Port, the Request Unit, the assembler, the drive nor the operation reads the same of two
states that agree in the rest. -/
theorem State.reads_of_sameBut {α : Type} (f : State → α)
    (hf : ∀ l q p d o, f (((((s.withLine l).withReq q).withPub p).withDrv d).withOp o) = f s)
    (h : s.sameBut [.rx, .line, .req, .pub, .drv, .op] t) : f t = f s := by
  have heq : t = ((((s.withLine t.line).withReq t.req).withPub t.pub).withDrv t.drv).withOp t.op := by
    obtain ⟨hpending, hparts⟩ := h
    have hclock : t.clockUs = s.clockUs := hparts .clock (by decide)
    have hsens : t.sens = s.sens := hparts .sens (by decide)
    have hnode : t.node = s.node := hparts .node (by decide)
    have hpeers : t.peers = s.peers := hparts .peers (by decide)
    have hshare : t.share = s.share := hparts .share (by decide)
    have htrk : t.trk = s.trk := hparts .trk (by decide)
    have hlocks : t.locks = s.locks := hparts .locks (by decide)
    cases t
    cases s
    simp only at hpending hclock hsens hnode hpeers hshare htrk hlocks
    subst hpending hclock hsens hnode hpeers hshare htrk hlocks
    rfl
  rw [heq]
  exact hf _ _ _ _ _

theorem State.interlock_of_sameBut (h : s.sameBut [.rx, .line, .req, .pub, .drv, .op] t) (m : Mode) :
    t.interlock m = s.interlock m :=
  State.reads_of_sameBut (fun u => u.interlock m) (fun _ _ _ _ _ => by cases m <;> rfl) h

theorem State.claimOf_of_sameBut (h : s.sameBut [.rx, .line, .req, .pub, .drv, .op] t) (m : Mode) :
    t.claimOf m = s.claimOf m :=
  State.reads_of_sameBut (fun u => u.claimOf m) (fun _ _ _ _ _ => by cases m <;> rfl) h

theorem State.interlock_pay {k : Nat} (h : s.interlock (.pay k) = none) :
    s.trk.state = .tracking ∧ s.D < s.node.setup.maxDepth ∧ s.room ≠ 0 := by
  dsimp only [State.interlock] at h
  split_ifs at h with h1 h2 h3
  exact ⟨not_not.mp h1, Int.not_le.mp h2, h3⟩

theorem State.interlock_thrust {f : Nat} (h : s.interlock (.thrust f) = none) : s.strokeLimitReached true = false := by
  dsimp only [State.interlock] at h
  split_ifs at h with h1
  exact Bool.eq_false_iff.mpr h1

theorem State.enterActive_unchecked_via (h : (∃ k, s.drv.mode = .turn k) ∨ s.drv.mode = .lock
    ∨ (∃ k q, s.drv.mode = .bore k q) ∨ ∃ k, s.drv.mode = .spin k) : s.via [.drv, .pub, .locks] s.enterActive := by
  unfold State.enterActive
  rcases h with ⟨k, h⟩ | h | ⟨k, q, h⟩ | ⟨k, h⟩ <;> rw [h]
  · exact State.via_refl _ s
  · exact State.via_enterLock (State.via_refl _ s) (by decide)
  · exact State.via_judgeStall (State.via_refl _ s) (by decide) (by decide)
  · exact State.via_enterSpin (State.via_refl _ s) (by decide) (by decide)

/-- R78, R81: the entry actions of a mode whose interlock holds leave the motion, where the mode is none of those that
can end at their entry and no operation runs. -/
theorem State.enterActive_calm (hlock : w.interlock m = none) (hmode : w.drv.mode = m) (hactive : w.drv.state = .active)
    (hends : m.endsAtEntry = false) (hop : w.op = none) :
    w.drv.SameMotion w.enterActive.drv ∧ w.via [.drv, .pub, .locks] w.enterActive := by
  have hsame : w.enterActive = w → w.drv.SameMotion w.enterActive.drv ∧ w.via [.drv, .pub, .locks] w.enterActive :=
    fun h => by rw [h]; exact ⟨.refl _, State.via_refl _ w⟩
  have hunchecked := fun h => (⟨w.enterActive_unchecked h, w.enterActive_unchecked_via h⟩ :
    w.drv.SameMotion w.enterActive.drv ∧ w.via [.drv, .pub, .locks] w.enterActive)
  cases m with
  | hold =>
    refine hsame ?_
    unfold State.enterActive
    rw [hmode]
  | pay k =>
    obtain ⟨htracking, hdepth, hroom⟩ := State.interlock_pay hlock
    refine hsame ?_
    unfold State.enterActive
    rw [hmode]
    exact (State.checkPay_of_pay hactive hmode).trans (by
      rw [if_neg (not_not.mpr htracking), if_neg (Int.not_le.mpr hdepth), if_neg hroom])
  | float k =>
    refine hsame ?_
    unfold State.enterActive
    rw [hmode]
    change w.enterPulling = w
    unfold State.enterPulling
    rw [hop]
  | thrust f =>
    refine hsame ?_
    unfold State.enterActive
    rw [hmode]
    exact (State.checkStroke_of_thrust hactive hmode).trans
      (if_neg (by rw [State.interlock_thrust hlock]; decide))
  | turn k => exact hunchecked (.inl ⟨k, hmode⟩)
  | lock => exact hunchecked (.inr (.inl hmode))
  | bore k q => exact hunchecked (.inr (.inr (.inl ⟨k, q, hmode⟩)))
  | spin k => exact hunchecked (.inr (.inr (.inr ⟨k, hmode⟩)))
  | haul _ => cases hends
  | feed _ _ => cases hends
  | pull _ _ => cases hends
  | release => cases hends

/-- R81, R89: the drive that has taken a mode from the drive `d`. -/
structure Drive.TookMode (brakeRelease : Nat) (m : Mode) (c : Claim) (src : Source) (d e : Drive) : Prop where
  claim : e.claim = c
  source : e.source = some src
  held : d.state = .held → e.state = .releasing ∧ e.mode = m ∧ e.timer = Timer.ms brakeRelease
  moving : (d.state = .releasing ∨ d.state = .active) → e.state = d.state ∧ e.mode = m ∧ e.timer = d.timer
  setting : d.state = .setting → e.state = .setting ∧ e.pending = some m ∧ e.mode = d.mode ∧ e.timer = d.timer

theorem Drive.renew_stands (m : Mode) (d : Drive) : (d.renew m).state = d.state ∧ (d.renew m).mode = d.mode
    ∧ (d.renew m).timer = d.timer := by
  unfold Drive.renew
  split <;> exact ⟨rfl, rfl, rfl⟩

theorem Drive.takeMode_took (k : Nat) (m : Mode) (c : Claim) (src : Source) (d : Drive) :
    Drive.TookMode k m c src d (d.takeMode k m c src).tidy := by
  obtain ⟨hstate, hmode, htimer⟩ := d.renew_stands m
  unfold Drive.takeMode
  dsimp only
  cases hd : d.state with
  | held =>
    rw [hstate, hd]
    exact ⟨rfl, rfl, fun _ => ⟨rfl, rfl, rfl⟩,
      fun h => h.elim (fun h => absurd (hd.symm.trans h) (by decide)) fun h => absurd (hd.symm.trans h) (by decide),
      fun h => absurd (hd.symm.trans h) (by decide)⟩
  | releasing =>
    rw [hstate, hd]
    exact ⟨rfl, rfl, fun h => absurd (hd.symm.trans h) (by decide), fun _ => ⟨hd.symm, rfl, htimer⟩,
      fun h => absurd (hd.symm.trans h) (by decide)⟩
  | active =>
    rw [hstate, hd]
    exact ⟨rfl, rfl, fun h => absurd (hd.symm.trans h) (by decide), fun _ => ⟨hd.symm, rfl, htimer⟩,
      fun h => absurd (hd.symm.trans h) (by decide)⟩
  | setting =>
    rw [hstate, hd]
    exact ⟨rfl, rfl, fun h => absurd (hd.symm.trans h) (by decide),
      fun h => h.elim (fun h => absurd (hd.symm.trans h) (by decide)) fun h => absurd (hd.symm.trans h) (by decide),
      fun _ => ⟨rfl, rfl, hmode, htimer⟩⟩

theorem Drive.TookMode.sameMotion {k : Nat} {c : Claim} {src : Source} {d e f : Drive} (h : d.TookMode k m c src e)
    (hm : e.SameMotion f) : d.TookMode k m c src f := by
  obtain ⟨hclaim, hsource, hheld, hmoving, hsetting⟩ := h
  refine ⟨hm.claim.trans hclaim, hm.source.trans hsource, fun h => ?_, fun h => ?_, fun h => ?_⟩
  · obtain ⟨h1, h2, h3⟩ := hheld h
    exact ⟨hm.state.trans h1, hm.mode.trans h2, hm.timer.trans h3⟩
  · obtain ⟨h1, h2, h3⟩ := hmoving h
    exact ⟨hm.state.trans h1, hm.mode.trans h2, hm.timer.trans h3⟩
  · obtain ⟨h1, h2, h3, h4⟩ := hsetting h
    exact ⟨hm.state.trans h1, hm.pending.trans h2, hm.mode.trans h3, hm.timer.trans h4⟩

theorem State.driveTakes_took (m : Mode) (src : Source) (u : State) :
    u.drv.TookMode u.node.setup.brakeRelease m (u.claimOf m) src (u.driveTakes m src).drv := by
  unfold State.driveTakes
  refine Drive.TookMode.sameMotion ?_ (State.judgeWithheld_motion _).1
  rw [State.setDrv_drv]
  exact Drive.takeMode_took _ _ _ _ _

theorem State.driveTakes_via (m : Mode) (src : Source) (u : State) : u.via [.drv, .pub] (u.driveTakes m src) := by simp

/-! ### A direct motion request taken (R80, R81, R89) -/

/-- R80: the drive takes the mode of a REQUEST, its entry ACTING. -/
def State.movesFor (m : Mode) (id : Nat) (s : State) : State :=
  ((s.setEntry id .acting).driveTakes m (.request id)).enterIfActive

/-- R81: the entry actions leave what the taking of the mode made. -/
theorem State.movesFor_spec (id : Nat) (hlock : u.interlock m = none) (hop : u.op = none)
    (hends : u.drv.state = .active → m.endsAtEntry = false) :
    u.drv.TookMode u.node.setup.brakeRelease m (u.claimOf m) (.request id) (u.movesFor m id).drv
      ∧ (u.setEntry id .acting).via [.drv, .pub, .locks] (u.movesFor m id) := by
  have hclaim : (u.setEntry id .acting).claimOf m = u.claimOf m := by cases m <;> rfl
  have htook := (u.setEntry id .acting).driveTakes_took m (.request id)
  rw [hclaim] at htook
  have hvia := (u.setEntry id .acting).driveTakes_via m (.request id)
  have hlock' : ((u.setEntry id .acting).driveTakes m (.request id)).interlock m = none := by
    rw [State.interlock_of_sameBut (hvia.mono (by decide)).1]
    exact (by cases m <;> rfl : (u.setEntry id .acting).interlock m = u.interlock m).trans hlock
  have hop' : ((u.setEntry id .acting).driveTakes m (.request id)).op = none := (hvia.same .op (by decide)).trans hop
  unfold State.movesFor
  generalize (u.setEntry id .acting).driveTakes m (.request id) = w at htook hvia hlock' hop'
  unfold State.enterIfActive
  split
  · next hactive =>
    have hstate : u.drv.state = .active ∧ w.drv.mode = m := by
      cases hd : u.drv.state with
      | held => cases hactive.symm.trans (htook.held hd).1
      | releasing => cases (hactive.symm.trans (htook.moving (.inl hd)).1).trans hd
      | active => exact ⟨rfl, (htook.moving (.inr hd)).2.1⟩
      | setting => cases hactive.symm.trans (htook.setting hd).1
    obtain ⟨hmotion, hcalm⟩ := State.enterActive_calm hlock' hstate.2 hactive (hends hstate.1) hop'
    exact ⟨htook.sameMotion hmotion, (hvia.mono (by decide)).trans hcalm⟩
  · exact ⟨htook, hvia.mono (by decide)⟩

/-- The end of a motion request taken adds no frame but the publication. -/
theorem State.movesFor_queues (id : Nat) (hvia : (u.setEntry id .acting).via [.drv, .pub, .locks] (u.movesFor m id)) :
    State.Queues TxFrame.notSubRequest u (u.movesFor m id).finish := by
  have hline : (u.movesFor m id).line = u.line := hvia.same .line (by decide)
  exact (State.Queues.of_line hline).trans (State.Queues.finished _)

/-- R80, R81, R89: in the words of the statement. -/
theorem State.MadeWay.motionTaken {ps : List Part} {left : List ReqEntry} (h : s.MadeWay ps left n r v)
    (hps : ps ⊆ [.rx, .line, .req, .pub, .op]) (hlock : s.interlock m = none)
    (hends : s.drv.state = .active → m.endsAtEntry = false) :
    s.motionTaken m r left (v.movesFor m s.req.nextId).finish
      ∧ (v.setEntry s.req.nextId .acting).via [.drv, .pub, .locks] (v.movesFor m s.req.nextId) := by
  have hwide : s.via [.rx, .line, .req, .pub, .op] v := h.via.mono hps
  have hsame : s.sameBut [.rx, .line, .req, .pub, .drv, .op] v := (hwide.mono (by decide)).1
  have hdrv : v.drv = s.drv := hwide.same .drv (by decide)
  have hsetup : v.node.setup = s.node.setup := (hwide.same .setup (by decide)).1
  obtain ⟨htook, hvia⟩ := v.movesFor_spec s.req.nextId (m := m) ((State.interlock_of_sameBut hsame m).trans hlock) h.op
    (by rw [hdrv]; exact hends)
  rw [hdrv, hsetup, State.claimOf_of_sameBut hsame] at htook
  obtain ⟨hclaim, hsource, hheld, hmoving, hsetting⟩ := htook
  have htable : (v.movesFor m s.req.nextId).req.table = left ++ [{ r.entry s.req.nextId with state := .acting }] :=
    (congrArg RequestUnit.table (hvia.same .req (by decide))).trans (h.acting .acting)
  refine ⟨⟨fun f hf => ?_, (State.finish_table _).trans htable, ?_⟩, hvia⟩
  · rw [List.mem_singleton.mp hf]
    exact (State.movesFor_queues _ hvia).mem h.claim rfl
  · rw [State.finish_drv]
    exact ⟨hclaim, hsource, hheld, hmoving, hsetting⟩

/-- What a motion request taken leaves of the state. -/
theorem State.MadeWay.motion_sameBut {ps qs : List Part} {left : List ReqEntry} (h : s.MadeWay ps left n r v)
    (hvia : (v.setEntry s.req.nextId .acting).via [.drv, .pub, .locks] (v.movesFor m s.req.nextId)) (hps : ps ⊆ qs)
    (hqs : [.line, .req, .drv, .pub, .locks] ⊆ qs) : s.sameBut qs (v.movesFor m s.req.nextId).finish := by
  have hentry : v.via [.req] (v.setEntry s.req.nextId .acting) := State.via_setEntry (State.via_refl _ v) (by decide) _ _
  have hmoves : v.via [.line, .req, .drv, .pub, .locks] (v.movesFor m s.req.nextId) :=
    (hentry.mono (by decide)).trans (hvia.mono (by decide))
  exact State.sameBut_finish ((h.via.mono hps).trans (hmoves.mono hqs)) (hqs (by decide)) (hqs (by decide))

/-- The request superseded stays replied. -/
theorem State.movesFor_replied (id : Nat) {res : Result} {why : Reason} (h : u.replied e res why)
    (hvia : (u.setEntry id .acting).via [.drv, .pub, .locks] (u.movesFor m id)) :
    (u.movesFor m id).finish.replied e res why := by
  have hentry := State.setEntry_replied (id := id) (st := .acting) h
  have hqueues : State.Queues TxFrame.notSubRequest (u.setEntry id .acting) (u.movesFor m id).finish :=
    (State.Queues.of_line (hvia.same .line (by decide))).trans (State.Queues.finished _)
  refine hqueues.replied hentry ?_
  rw [State.finish_table, show (u.movesFor m id).req = (u.setEntry id .acting).req from hvia.same .req (by decide)]
  exact List.Subset.refl _

end

/-- R79, R80: a direct motion request in RUN that passes its checks. -/
theorem exec_motion_accepted {s : State} {row : Instr} {r : Request} {m : Mode} {k : Nat} (hrow : row ∈ motionRows)
    (ha : s.asks row r) (ht : s.takesRequest r k) (hrun : s.node.state = .run)
    (hmode : modeAsked row s.node.setup r.args = some m) (hm : m ≠ .hold) (hlock : s.interlock m = none) :
    exec row s = .next ((s.claimed r).displaced.movesFor m s.req.nextId).finish := by
  rw [exec_motion hrow ha ht hrun, hmode, Option.elim_some,
    State.takeDirect_of_holds ((State.claimed_interlock r m).trans hlock), State.accept_eq _ m hm]
  rfl

theorem modeAsked_rows {row : Instr} {su : Setup} {args : List Byte} {m : Mode} (h : modeAsked row su args = some m) :
    row ∈ motionRows := by
  cases row <;> first | decide | cases h

/-- Settles O53: by what acted before. -/
theorem acceptedMotionIsTakenByTheDrive : Obligations.AcceptedMotionIsTakenByTheDrive := by
  unfold Obligations.AcceptedMotionIsTakenByTheDrive
  intro s row r m ha hs hrun hmode hm hlock hends
  have hrow := modeAsked_rows hmode
  refine ⟨fun hop hsource ht => ?_, fun e hop hsource hentry ht => ?_, fun o e hruns hsource ht => ?_⟩
  · have hway := State.madeWay_of_idle (n := 0) hs hop hsource ht
    obtain ⟨htaken, hvia⟩ := hway.motionTaken (m := m) (by decide) hlock hends
    exact ⟨_, exec_motion_accepted hrow ha ht hrun hmode hm hlock, htaken,
      hway.motion_sameBut hvia (by decide) (by decide)⟩
  · obtain ⟨hway, hreplied⟩ := State.madeWay_of_request (n := 0) hs hop hsource hentry ht
    obtain ⟨htaken, hvia⟩ := hway.motionTaken (m := m) (by decide) hlock hends
    exact ⟨_, exec_motion_accepted hrow ha ht hrun hmode hm hlock, htaken, State.movesFor_replied _ hreplied hvia,
      hway.motion_sameBut hvia (by decide) (by decide)⟩
  · obtain ⟨hway, hreplied, hwound⟩ := State.madeWay_of_op (n := 0) hs hruns hsource ht
    obtain ⟨htaken, hvia⟩ := hway.motionTaken (m := m) (by decide) hlock hends
    refine ⟨_, exec_motion_accepted hrow ha ht hrun hmode hm hlock, htaken, ?_, State.movesFor_replied _ hreplied hvia,
      State.woundDown.queues hwound (State.movesFor_queues _ hvia), hway.motion_sameBut hvia (by decide) (by decide)⟩
    rw [State.finish_op]
    exact (hvia.same .op (by decide)).trans hway.op

/-! ### Sub-requests queued (R47, R50) -/

section
variable {s u v : State} {o : OpRecord} {r : Request} {e : ReqEntry} {n : Nat}

theorem State.queueSub_of_op (hop : s.op = some o) (what : SubReq) : s.queueSub what =
    (s.withOp (some { o with subs := o.subs ++ [newSub what s.req.tagCtr] })).queueRequest
      (.subRequest s.req.tagCtr what.target) what := by
  unfold State.queueSub
  rw [hop]

theorem State.queueSub_op (hop : s.op = some o) (what : SubReq) :
    (s.queueSub what).op = some { o with subs := o.subs ++ [newSub what s.req.tagCtr] } := by
  rw [State.queueSub_of_op hop]
  exact State.offer_op _ _

/-- The line of a sub-request queued is that of its REQUEST offered. -/
theorem State.queueSub_line (hop : s.op = some o) (what : SubReq) :
    ∃ u : State, (s.queueSub what).line = (u.offer ((newSub what s.req.tagCtr).frame s.node.setup)).line
      ∧ u.line = s.line ∧ u.silenced = s.silenced := by
  rw [State.queueSub_of_op hop]
  exact ⟨_, rfl, rfl, rfl⟩

theorem State.queueSub_via (what : SubReq) (s : State) : s.via [.line, .req, .op] (s.queueSub what) := by simp

theorem State.queueSub_table (what : SubReq) (s : State) : (s.queueSub what).req.table = s.req.table := by
  unfold State.queueSub
  split
  · rfl
  · exact State.queueRequest_table _ _ _

theorem State.queueSub_queues (hop : s.op = some o) (what : SubReq) :
    State.Queues (· = (newSub what s.req.tagCtr).frame s.node.setup) s (s.queueSub what) := by
  obtain ⟨u, hline, hu, -⟩ := State.queueSub_line hop what
  have hoffer := State.Queues.offer (P := (· = (newSub what s.req.tagCtr).frame s.node.setup)) rfl u
  exact ((State.Queues.of_line hu).trans hoffer).trans (State.Queues.of_line hline)

theorem State.queueSub_room (hop : s.op = some o) (what : SubReq) (h : s.hasRoom (n + 1)) :
    (newSub what s.req.tagCtr).frame s.node.setup ∈ (s.queueSub what).line.queue ∧ (s.queueSub what).hasRoom n := by
  obtain ⟨hsil, hlen⟩ := h
  obtain ⟨u, hline, hu, hsame⟩ := State.queueSub_line hop what
  have hlength := State.length_offer ((newSub what s.req.tagCtr).frame s.node.setup) u
  rw [hu] at hlength
  have hnode : (s.queueSub what).node = s.node := (State.queueSub_via what s).same .node (by decide)
  unfold State.hasRoom
  rw [hline, State.silenced, hnode]
  exact ⟨State.mem_offer _ u (hsame.trans hsil) (by rw [hu]; omega), hsil, by omega⟩

/-- R47: the sub-requests of a list queued in order. -/
def State.queueSubs (subs : List SubReq) (s : State) : State := subs.foldl (fun s what => s.queueSub what) s

theorem State.queueSubs_cons (what : SubReq) (subs : List SubReq) (s : State) :
    s.queueSubs (what :: subs) = (s.queueSub what).queueSubs subs := rfl

theorem State.queueSubs_via (subs : List SubReq) (s : State) : s.via [.line, .req, .op] (s.queueSubs subs) :=
  State.via_foldl _ (fun _ what h => State.via_queueSub h (by decide) (by decide) (by decide) what) subs (State.via_refl _ s)

theorem State.queueSubs_table (subs : List SubReq) (s : State) : (s.queueSubs subs).req.table = s.req.table := by
  induction subs generalizing s with
  | nil => rfl
  | cons what subs ih => rw [State.queueSubs_cons, ih, State.queueSub_table]

/-- The REQUESTs of a list of entries. -/
def subFrames (su : Setup) (subs : List SubEntry) : List TxFrame := subs.map (SubEntry.frame su)

/-- R47, R50: the entries that queued sub-requests make, and their REQUESTs. -/
theorem State.queueSubs_spec (subs : List SubReq) (hop : s.op = some o) :
    ∃ new : List SubEntry, (s.queueSubs subs).op = some { o with subs := o.subs ++ new } ∧ new.map SubEntry.what = subs
      ∧ (∀ x ∈ new, x.claim = .unclaimed ∧ x.sendBound = Timer.ms 500)
      ∧ State.Queues (fun g => g ∈ subFrames s.node.setup new) s (s.queueSubs subs)
      ∧ (s.hasRoom subs.length → (s.queueSubs subs).queued (subFrames s.node.setup new)) := by
  induction subs generalizing s o with
  | nil =>
    exact ⟨[], hop.trans (by rw [List.append_nil]), rfl, List.forall_mem_nil _, .of_line rfl, fun _ => List.forall_mem_nil _⟩
  | cons what subs ih =>
    obtain ⟨new, hnew, hwhat, hfields, hqueues, hqueued⟩ := ih (State.queueSub_op hop what)
    have hsetup : (s.queueSub what).node.setup = s.node.setup :=
      ((State.queueSub_via what s).same .setup (by decide)).1
    rw [hsetup] at hqueues hqueued
    rw [State.queueSubs_cons]
    refine ⟨newSub what s.req.tagCtr :: new, ?_, ?_, List.forall_mem_cons.mpr ⟨⟨rfl, rfl⟩, hfields⟩, ?_, fun hroom => ?_⟩
    · rw [hnew, List.append_assoc]
      rfl
    · rw [List.map_cons, hwhat]
      rfl
    · exact ((State.queueSub_queues hop what).mono fun g hg => hg ▸ List.mem_cons_self).trans
        (hqueues.mono fun g hg => List.mem_cons_of_mem _ hg)
    · obtain ⟨hfirst, hrest⟩ := State.queueSub_room (n := subs.length) hop what hroom
      exact List.forall_mem_cons.mpr ⟨hqueues.mem hfirst rfl, hqueued hrest⟩

/-! ### The record of an operation (R49) -/

/-- R49: the record of an operation just accepted. -/
def OpSpec.record (spec : OpSpec) (e : ReqEntry) (first : Phase) : OpRecord :=
  { spec := spec, requester := e.requester, tag := e.tag, entry := e.id, phase := first, corr := 0, subs := [],
    pubWait := none, pubFrom := 0, lastMiss := false }

/-- R49: the record made, its entry WAITING_PEERS, the own drive in HOLD. -/
def State.beginOp (e : ReqEntry) (spec : OpSpec) (first : Phase) (s : State) : State :=
  ((s.withOp (some (spec.record e first))).setEntry e.id .waitingPeers).signalOp.giveHold

theorem State.acceptOp_eq (e : ReqEntry) (spec : OpSpec) (first : Phase) (u : State) :
    u.acceptOp e spec first = u.displaced.beginOp e spec first := rfl

theorem State.beginOp_spec (e : ReqEntry) (spec : OpSpec) (first : Phase) (v : State) :
    (v.beginOp e spec first).op = some (spec.record e first) ∧ (v.beginOp e spec first).line = v.line
      ∧ (v.beginOp e spec first).req = (v.setEntry e.id .waitingPeers).req
      ∧ v.drv.wentToHold v.node.setup.brakeSet (v.beginOp e spec first).drv := by
  unfold State.beginOp
  have hhold := (((v.withOp (some (spec.record e first))).setEntry e.id .waitingPeers).signalOp).giveHold_wentToHold
  rw [State.signalOp_drv, State.signalOp_node] at hhold
  refine ⟨?_, ?_, ?_, hhold⟩
  · rw [State.giveHold_op, State.signalOp_op]
    rfl
  · rw [State.giveHold_line, State.signalOp_line]
    rfl
  · rw [State.giveHold_req, State.signalOp_req]
    rfl

theorem State.beginOp_via (e : ReqEntry) (spec : OpSpec) (first : Phase) (v : State) :
    v.via [.req, .drv, .pub, .op] (v.beginOp e spec first) := by
  unfold State.beginOp
  simp (maxDischargeDepth := 10)

theorem State.displaced_via (u : State) : u.via [.line, .req, .pub, .op] u.displaced := by
  unfold State.displaced
  simp (maxDischargeDepth := 10)

/-! ### An operation request accepted -/

/-- The parts that an operation request accepted touches. -/
theorem State.acceptOp_via (e : ReqEntry) (spec : OpSpec) (first : Phase) (u : State) :
    u.via [.line, .req, .drv, .pub, .op] (u.acceptOp e spec first) :=
  (u.displaced_via.mono (by decide)).trans ((State.beginOp_via e spec first u.displaced).mono (by decide))

theorem State.queueSubs_prepareRope (h : u.via [.line, .req, .drv, .pub, .op] v) :
    v.prepareRope = v.queueSubs u.ropeSubs := by
  have hreads : v.ropeSubs = u.ropeSubs := State.reads_of_sameBut State.ropeSubs (fun _ _ _ _ _ => rfl) (h.mono (by decide)).1
  rw [← hreads]
  unfold State.prepareRope State.ropeSubs
  split <;> rfl

section
variable {spec : OpSpec} {first : Phase} {subs : List SubReq}

theorem takeLower_accepted (h : u.operationAsked .lower e.args = some (spec, first, subs)) :
    takeLower e u = (u.acceptOp e spec first).queueSubs subs := by
  unfold takeLower
  cases hd : readDepth e.args with
  | none =>
    rw [State.operationAsked, hd] at h
    cases h
  | some d =>
    rw [State.operationAsked, hd, Option.bind_some] at h
    dsimp only
    split at h
    · next hc =>
      cases h
      rw [if_pos hc]
      exact State.queueSubs_prepareRope (State.acceptOp_via e (.lower d) .prepare u)
    · cases h

theorem takeLift_accepted (h : u.operationAsked .lift e.args = some (spec, first, subs)) :
    takeLift e u = (u.acceptOp e spec first).queueSubs subs := by
  unfold takeLift
  cases hd : readDepth e.args with
  | none =>
    rw [State.operationAsked, hd] at h
    cases h
  | some d =>
    rw [State.operationAsked, hd, Option.bind_some] at h
    dsimp only
    split at h
    · next hc =>
      cases h
      rw [if_pos hc]
      exact State.queueSubs_prepareRope (State.acceptOp_via e (.lift d) .prepare u)
    · cases h

theorem takeExtend_accepted (h : u.operationAsked .extend e.args = some (spec, first, subs)) :
    takeExtend e u = (u.acceptOp e spec first).queueSubs subs := by
  unfold State.operationAsked at h
  dsimp only at h
  split at h
  · next hc =>
    obtain ⟨hargs, htracking, hidle⟩ := hc
    have hno : ¬(!noArgs e.args) = true := by rw [noArgs_iff.mpr hargs]; decide
    have hpasses : ¬(u.trk.state ≠ .tracking ∨ (!u.rotaryIdle) = true) := by simp [htracking, hidle]
    unfold takeExtend
    rw [if_neg hno, if_neg hpasses]
    cases ht : u.extendTarget with
    | none =>
      rw [ht] at h
      cases h
    | some jk =>
      obtain ⟨j, k⟩ := jk
      rw [ht, Option.bind_some] at h
      dsimp only at h ⊢
      split at h
      · next hmin =>
        cases h
        rw [if_neg (Int.not_lt.mpr hmin)]
        rfl
      · cases h
  · cases h

theorem takeBore_accepted (h : u.operationAsked .bore e.args = some (spec, first, subs)) :
    takeBore e u = (u.acceptOp e spec first).queueSubs subs := by
  unfold takeBore
  cases hb : readBore u.node.setup e.args with
  | none =>
    rw [State.operationAsked, hb] at h
    cases h
  | some b =>
    obtain ⟨d, f, q, k, rfl⟩ := readBore_isBore hb
    rw [State.operationAsked, hb] at h
    dsimp only at h ⊢
    split at h
    · next hc =>
      cases h
      rw [if_pos hc]
      rfl
    · cases h

theorem takeSpinOff_accepted (h : u.operationAsked .spinOff e.args = some (spec, first, subs)) :
    takeSpinOff e u = (u.acceptOp e spec first).queueSubs subs := by
  unfold takeSpinOff
  cases hd : readCycles e.args with
  | none =>
    rw [State.operationAsked, hd] at h
    cases h
  | some c =>
    rw [State.operationAsked, hd, Option.bind_some] at h
    dsimp only
    split at h
    · next hc =>
      cases h
      rw [if_pos hc]
      rfl
    · cases h

theorem operationAsked_rows {row : Instr} {args : List Byte} {x : OpSpec × Phase × List SubReq}
    (h : s.operationAsked row args = some x) : row ∈ operationRows := by
  cases row <;> first | decide | cases h

/-- R49, R50: the block of an operation request that passes its prechecks. -/
theorem destination_of_operation_accepted {row : Instr} (hn : rowFn row = some n)
    (h : u.operationAsked row e.args = some (spec, first, subs)) :
    destination n e u = (u.acceptOp e spec first).queueSubs subs := by
  have hrow := operationAsked_rows h
  simp only [operationRows, List.mem_cons, List.not_mem_nil, or_false] at hrow
  rcases hrow with rfl | rfl | rfl | rfl | rfl <;> cases hn
  exacts [takeLower_accepted h, takeLift_accepted h, takeExtend_accepted h, takeBore_accepted h, takeSpinOff_accepted h]

/-- R49, R50: an operation request in RUN that passes its prechecks. -/
theorem exec_operation_accepted {row : Instr} {k : Nat} (ha : s.asks row r) (ht : s.takesRequest r k)
    (hrun : s.node.state = .run) (h : s.operationAsked row r.args = some (spec, first, subs)) :
    exec row s = .next (((s.claimed r).displaced.beginOp (r.entry s.req.nextId) spec first).queueSubs subs).finish := by
  obtain ⟨n, hn, hreset⟩ := rowFn_of_operation (operationAsked_rows h)
  rw [exec_request_taken hn hreset ha ht (by rw [hrun]; exact gate_run n),
    destination_of_operation_accepted hn ((State.claimed_operationAsked r row r.args).trans h), State.acceptOp_eq]

/-- R49, R50: what an operation begun on the way made leaves, in the words of the statement. -/
theorem State.MadeWay.operationTaken {ps : List Part} {left : List ReqEntry}
    (h : s.MadeWay ps left subs.length r v) (hps : ps ⊆ [.rx, .line, .req, .pub, .op]) :
    let t := ((v.beginOp (r.entry s.req.nextId) spec first).queueSubs subs).finish
    ∃ o, s.operationTaken spec first subs r left o t
      ∧ State.Queues (fun g => g.owner.isSubRequest = true → g ∈ subFrames s.node.setup o.subs) v t
      ∧ t.req.table = (v.setEntry s.req.nextId .waitingPeers).req.table
      ∧ s.sameBut [.rx, .line, .req, .drv, .pub, .op] t := by
  intro t
  let w := v.beginOp (r.entry s.req.nextId) spec first
  have hwide : s.via [.rx, .line, .req, .pub, .op] v := h.via.mono hps
  have hdrv : v.drv = s.drv := hwide.same .drv (by decide)
  have hsetup : v.node.setup = s.node.setup := (hwide.same .setup (by decide)).1
  obtain ⟨hop, hline, hreq, hhold⟩ := v.beginOp_spec (r.entry s.req.nextId) spec first
  have hbegin := v.beginOp_via (r.entry s.req.nextId) spec first
  have hwsetup : w.node.setup = s.node.setup := ((hbegin.same .setup (by decide)).1).trans hsetup
  obtain ⟨new, hnew, hwhat, hfields, hqueues, hqueued⟩ := State.queueSubs_spec (s := w) subs hop
  have hsubs := State.queueSubs_via subs w
  rw [hwsetup] at hqueues hqueued
  have hroom : w.hasRoom subs.length :=
    State.hasRoom_of_eq h.room (by rw [show w.node = v.node from hbegin.same .node (by decide)])
      (congrArg LinePort.queue hline)
  have hfinished : State.Queues (fun g => g.owner.isSubRequest = true → g ∈ subFrames s.node.setup new)
      (w.queueSubs subs) t := (State.Queues.finished _).mono fun g hg hsub => absurd (hsub.symm.trans hg) (by decide)
  have hqueues' : State.Queues (fun g => g.owner.isSubRequest = true → g ∈ subFrames s.node.setup new) w (w.queueSubs subs) :=
    hqueues.mono fun g hg _ => hg
  have hkeeps : State.Queues (fun g => g.owner.isSubRequest = true → g ∈ subFrames s.node.setup new) v t :=
    ((State.Queues.of_line hline).trans hqueues').trans hfinished
  have htable : t.req.table = (v.setEntry s.req.nextId .waitingPeers).req.table := by
    rw [State.finish_table, State.queueSubs_table, hreq]
    rfl
  rw [hdrv, hsetup] at hhold
  refine ⟨{ spec.record (r.entry s.req.nextId) first with subs := new }, ⟨?_, rfl, rfl, rfl, rfl, rfl, hwhat,
    fun x hx => ⟨(hfields x hx).1, (hfields x hx).2, fun f hf => ?_⟩, ?_, htable.trans (h.acting .waitingPeers), fun f hf => ?_⟩,
    hkeeps, htable, ?_⟩
  · rw [State.finish_op, hnew]
    rfl
  · rw [List.mem_singleton.mp hf]
    exact (State.Queues.finished _).mem (hqueued hroom _ (List.mem_map_of_mem hx)) rfl
  · rw [State.finish_drv, hsubs.same .drv (by decide)]
    exact hhold
  · rw [List.mem_singleton.mp hf]
    exact hkeeps.mem h.claim rfl
  · exact State.sameBut_finish (((hwide.mono (by decide)).trans (hbegin.mono (by decide))).trans (hsubs.mono (by decide)))
      (by decide) (by decide)

end

/-- The request superseded stays replied beside the operation begun. -/
theorem State.replied_of_begun {P : TxFrame → Prop} {id : Nat} {t : State} {res : Result} {why : Reason}
    (h : v.replied e res why) (hq : State.Queues P v t) (htable : t.req.table = (v.setEntry id .waitingPeers).req.table) :
    t.replied e res why :=
  ⟨fun x hx => (State.setEntry_replied (id := id) h).1 x (htable ▸ hx), hq.queued h.2 fun _ hf => replyFrames_not_publish hf⟩

theorem State.woundDownBut.more {fresh : List TxFrame} {old : List SubEntry} {t : State} (h : s.woundDown old t) :
    s.woundDownBut fresh old t := by
  obtain ⟨hholds, hnone, hshift⟩ := h
  exact ⟨hholds, fun f hf hsub => absurd (hnone f hf hsub) List.not_mem_nil, hshift⟩

end

/-- Settles O56: by what acted before. -/
theorem acceptedOperationsQueueTheirFirstSubRequests : Obligations.AcceptedOperationsQueueTheirFirstSubRequests := by
  unfold Obligations.AcceptedOperationsQueueTheirFirstSubRequests
  intro s row r spec first subs ha hs hrun hasked
  refine ⟨fun hop hsource ht => ?_, fun e hop hsource hentry ht => ?_, fun old e hruns hsource ht => ?_⟩
  · have hway := State.madeWay_of_idle hs hop hsource ht
    obtain ⟨o, htaken, -, -, hsame⟩ := hway.operationTaken (spec := spec) (first := first) (by decide)
    exact ⟨_, o, exec_operation_accepted ha ht hrun hasked, htaken, hsame⟩
  · obtain ⟨hway, hreplied⟩ := State.madeWay_of_request hs hop hsource hentry ht
    obtain ⟨o, htaken, hqueues, htable, hsame⟩ := hway.operationTaken (spec := spec) (first := first) (by decide)
    exact ⟨_, o, exec_operation_accepted ha ht hrun hasked, htaken, State.replied_of_begun hreplied hqueues htable, hsame⟩
  · obtain ⟨hway, hreplied, hwound⟩ := State.madeWay_of_op hs hruns hsource ht
    obtain ⟨o, htaken, hqueues, htable, hsame⟩ := hway.operationTaken (spec := spec) (first := first) (by decide)
    exact ⟨_, o, exec_operation_accepted ha ht hrun hasked, htaken, State.replied_of_begun hreplied hqueues htable,
      State.woundDownBut.queues (State.woundDownBut.more hwound) hqueues, hsame⟩

end Sys2Proof.Machine
